-- ==== Sys2Proof/Word.lean ====
section
/-! DEFINITION. The word types of the LORJAV 7340 and the two small container shapes the machine's records use. -/

namespace Sys2Proof

/-- One byte of exchange memory. -/
abbrev Byte := BitVec 8

/-- One aligned 32-bit word of exchange memory, or one register (R146, R150). -/
abbrev Word := BitVec 32

/-- The smallest whole number not less than the exact quotient ("rounded up" of the opening file). -/
def ceilDiv (a b : Nat) : Nat := (a + b - 1) / b

/-- A whole number brought into a legal range (R160). -/
def clampTo (lo hi n : Nat) : Nat := max lo (min hi n)

end Sys2Proof
end

