-- ==== Sys2Proof/Syntax.lean ====
section
/-! DEFINITION. The commands that reach the 7340: one constructor of `Instr` for each row of spec/opcode_table.json, with the operands the rules give it. -/

namespace Sys2Proof

/-- Head A is the left head and head B the right head. -/
inductive HeadId where
  | a
  | b
  deriving DecidableEq, Repr, Inhabited

/-- The other head of the shared rail. -/
def HeadId.other : HeadId → HeadId
  | .a => .b
  | .b => .a

/-- Sites S0 to S31; a site and its socket have the same number. -/
abbrev Site := Fin 32

/-- Nozzles 0 to 3 of a head. -/
abbrev Nozzle := Fin 4

/-- Tray frames 0 to 11. -/
abbrev FrameId := Fin 12

/-- Notice slots 0 to 31. -/
abbrev SlotId := Fin 32

/-- What a DRIVE_FAULT report names (R123). -/
inductive FaultTarget where
  | head (h : HeadId)
  | site (i : Site)
  deriving DecidableEq, Repr

/-- The commands, in the order of the opcode table. The sender is the tester, the drives, a timer of the 7340 itself,
or the host; each command is one event, whole and indivisible.

A `threshold` operand is bits 8 to 10 of the CONTROL write that carries the request (R150).
An `enables` operand has bit i set when byte i of the aligned word is written (R148). -/
inductive Instr where
  /-- READY(site, up or down) from the tester (R7). The site is any number, because R5 says what a wrong one does. -/
  | ready (site : Nat) (up : Bool)
  /-- END(site, bin) from the tester (R9). -/
  | endOfTest (site : Nat) (bin : Byte)
  /-- The contact timer of a socket expires (R6). -/
  | contactExpiry (site : Site)
  /-- The end-of-test watchdog of a socket expires (R10). -/
  | eotWatchdogExpiry (site : Site)
  /-- The release timer of a socket expires (R14). -/
  | releaseExpiry (site : Site)
  /-- The recovery timer of a socket expires (R16). -/
  | recoveryExpiry (site : Site)
  /-- ARRIVED(head) from the drives (R113). -/
  | arrived (head : HeadId)
  /-- ACT_DONE(head, nozzle, vacuum held) from the drives (R116). -/
  | actDone (head : HeadId) (nozzle : Nozzle) (vacuum : Bool)
  /-- POSITION(head, x, y) from the drives (R166). -/
  | position (head : HeadId) (x y : Nat)
  /-- The wait of an ARM for the head positions ends (R166). -/
  | positionWaitExpiry
  /-- VACUUM_LOST(head, nozzle) from the drives (R121). -/
  | vacuumLost (head : HeadId) (nozzle : Nozzle)
  /-- DRIVE_FAULT(head or site) from the drives (R123). -/
  | driveFault (target : FaultTarget)
  /-- A head's travel watchdog expires (R119). -/
  | travelWatchdogExpiry (head : HeadId)
  /-- A head's action watchdog expires (R120). -/
  | actionWatchdogExpiry (head : HeadId)
  /-- CONTROL write with request code 1 (R164). -/
  | arm (threshold : BitVec 3)
  /-- CONTROL write with request code 2 (R175). -/
  | run (threshold : BitVec 3)
  /-- CONTROL write with request code 3 (R176). -/
  | hold (threshold : BitVec 3)
  /-- CONTROL write with request code 4 (R179). -/
  | drain (threshold : BitVec 3)
  /-- CONTROL write with request code 5 (R183). -/
  | reset (threshold : BitVec 3)
  /-- CONTROL write with request code 6, or 7 when `seven` (R150). -/
  | undefinedRequest (seven : Bool) (threshold : BitVec 3)
  /-- CONTROL write with request code 0, NONE: it sets the threshold alone (R150). -/
  | attentionThreshold (threshold : BitVec 3)
  /-- A whole-word host write to ATTENTION (R153). -/
  | attentionClear (value : Word)
  /-- A whole-word host write to LEVELS (R154). -/
  | levels (value : Word)
  /-- A host write into the register window that is dropped (R150, R151): to IDENT, STATUS, ERROR_ADDRESS or an
  unused offset, or narrower than a word. -/
  | registerWriteDropped (offset : BitVec 5) (enables : BitVec 4) (value : Word)
  /-- Power is applied (R184). -/
  | powerOnReset
  /-- A host write of bytes to exchange memory from an offset on (R146, R148). -/
  | exchangeMemoryWrite (offset : BitVec 16) (bytes : List Byte)
  /-- A whole-word host write of POSTED, 1, to a frame's state word (R129). -/
  | posted (frame : FrameId)
  /-- A whole-word host write of CLOSE, 3, to a frame's state word (R140). -/
  | close (frame : FrameId)
  /-- A whole-word host write of FREE, 0, to a frame's state word (R128). -/
  | frameFree (frame : FrameId)
  /-- Any host write to a frame's state word, narrow ones among them (R128, R148). -/
  | frameWriteRefused (frame : FrameId) (enables : BitVec 4) (value : Word)
  /-- A whole-word host write of FREE, 0, to a slot's state word (R149). -/
  | slotFree (slot : SlotId)
  /-- Any host write to a slot's state word, narrow ones among them (R148, R149). -/
  | slotWriteRefused (slot : SlotId) (enables : BitVec 4) (value : Word)
  deriving DecidableEq, Repr

end Sys2Proof
end

