-- ==== Sys2Proof/Decode.lean ====
section
/-! DEFINITION. The command a word spells by the table's bits. No row of spec/opcode_table.json gives bits (each has an
empty "fields" and no "fixed"), so no word spells a command. -/

namespace Sys2Proof

/-- No row of the opcode table gives bits, so every word spells none (log entry 1). -/
def decodeTableWord (_nbits _w : Nat) : Option Instr := none

end Sys2Proof
end

