-- ==== Sys2Proof/Config.lean ====
section
/-! DEFINITION. What the 7340 fixes for every run: part code, revision, capacities, the areas of exchange memory and their
offsets, the free order of the two heads, and the model's own bound on one event's follow-up work. -/

namespace Sys2Proof.Config

/-- The part code of IDENT and of the identity block (R172). -/
def partCode : Nat := 0x7340

/-- The revision of the parts the manual describes (R172). -/
def revision : Nat := 1

/-- The ten capacity bytes of the identity block, offsets 0x00 to 0x09 (section 8.1, R172). -/
def identityBytes : List Byte := [0x40#8, 0x73#8, 0x01#8, 0x00#8, 32#8, 2#8, 4#8, 12#8, 32#8, 64#8]

/-- Exchange memory is 64 KiB. -/
def memorySize : Nat := 0x10000

/-- The base of notice slot n (section 8.1). -/
def slotBase (n : Nat) : Nat := 0x1000 + n * 0x40

/-- The base of tray frame n (section 8.1). -/
def frameBase (n : Nat) : Nat := 0x4000 + n * 0x1000

/-- Offset of site Sn's record (section 8.2). -/
def siteBase (n : Nat) : Nat := 0x0300 + n * 16

/-- Offset of the geometry of the station with a code (section 8.2). -/
def stationBase (code : Nat) : Nat := 0x0058 + code * 20

/-- Offset of the position of socket Sn (section 8.2). -/
def socketBase (n : Nat) : Nat := 0x0140 + n * 8

/-- Offset of bin map entry n (section 8.2). -/
def binBase (n : Nat) : Nat := 0x0500 + n * 4

/-- Offset of class record c (section 8.2). -/
def classBase (c : Nat) : Nat := 0x0600 + c * 8

/-- Offset of motion profile n (section 8.2). -/
def motionBase (n : Nat) : Nat := 0x0260 + n * 12

/-- Offset of socket profile n (section 8.2). -/
def socketProfileBase (n : Nat) : Nat := 0x0290 + n * 16

/-- The holding queue of the notice board holds up to 8 notices (R155). -/
def queueRoom : Nat := 8

/-- The free values of the model (log entry 6): which head is taken first at the n-th place where the spec says that either
may be (R70). It has no body, so nothing can be proved of it. -/
opaque eitherHead : Nat → HeadId

/-- How many follow-up tasks one event may run before the rest is left for the next event (log entry 7). The model's own
bound, far above what an event can start. -/
def cascadeFuel : Nat := 100000000

end Sys2Proof.Config
end

