-- ==== Sys2Proof/Machine/State.lean ====
section
/-! DEFINITION. The state of the 7340, block by block as the overview table of 00_scope.md lists them, with the queue of
waiting commands; its value after a power-on reset; and the reasons for which a step stops. -/

namespace Sys2Proof.Machine

/-- One value for each head. -/
structure Pair (α : Type) where
  a : α
  b : α
  deriving DecidableEq, Repr

/-- The value of one head. -/
def Pair.get {α : Type} (p : Pair α) : HeadId → α
  | .a => p.a
  | .b => p.b

/-- Another value for one head. -/
def Pair.set {α : Type} (p : Pair α) (h : HeadId) (x : α) : Pair α :=
  match h with
  | .a => { p with a := x }
  | .b => { p with b := x }

/-! ## Names shared by several records -/

/-- A unit handle, 0 to 63 (R29). -/
abbrev Handle := Fin 64

/-- The stations (00_scope.md): IN0 and IN1, OUT0 to OUT7, STRIP. -/
inductive Station where
  | input (n : Fin 2)
  | output (n : Fin 8)
  | strip
  deriving DecidableEq, Repr

/-- A closed interval of X positions [lo, hi] (R78). -/
structure Interval where
  lo : Nat
  hi : Nat
  deriving DecidableEq, Repr

/-- The seven device states (chapter 10). -/
inductive DeviceState where
  | unarmed | held | run | holding | draining | drained | halted
  deriving DecidableEq, Repr

/-- The six attention classes, in the order of R154. -/
inductive AttentionClass where
  | tray | notice | state | bin | site | supply
  deriving DecidableEq, Repr

/-! ## Configuration: the shadow copies (R159) -/

/-- A station's shadow geometry (deck record, section 8.2). -/
structure Geometry where
  originX : Nat
  originY : Nat
  pitchX : Nat
  pitchY : Nat
  maxRows : Nat
  maxColumns : Nat
  deriving DecidableEq, Repr

/-- A position in µm. -/
structure Point where
  x : Nat
  y : Nat
  deriving DecidableEq, Repr

/-- The shadow deck record (section 9.1), clamped by R160. -/
structure DeckConfig where
  railLength : Nat
  yTravel : Nat
  nozzlePitch : Nat
  separation : Nat
  pickRetries : Nat
  placeRetries : Nat
  actionLimit : Nat
  preemption : Bool
  untestedClass : Fin 8
  stations : Vector Geometry 11
  sockets : Vector Point 32
  deriving DecidableEq, Repr

/-- A head record's shadow copy: its window and its four motion profile indices. -/
structure HeadConfig where
  windowLow : Nat
  windowHigh : Nat
  loadedX : Fin 4
  loadedY : Fin 4
  emptyX : Fin 4
  emptyY : Fin 4
  deriving DecidableEq, Repr

/-- A motion profile's shadow copy (R100). -/
structure MotionProfile where
  velocity : Nat
  acceleration : Nat
  settle : Nat
  deriving DecidableEq, Repr

/-- A socket profile's shadow copy: three delays in ms and the end-of-test limit in s. -/
structure SocketProfile where
  contact : Nat
  release : Nat
  recovery : Nat
  endOfTest : Nat
  deriving DecidableEq, Repr

/-- A site record's shadow copy. The action flags are not copied (R160). -/
structure SiteConfig where
  enable : Bool
  level : Nat
  profile : Fin 4
  threshold : Nat
  lockout : Bool
  deriving DecidableEq, Repr

/-- A bin map entry's shadow copy (R34). -/
structure BinEntry where
  cls : Fin 8
  retest : Bool
  counts : Bool
  clears : Bool
  limit : Nat
  deriving DecidableEq, Repr

/-- One set of copies of all the configuration records (R159). -/
structure Shadow where
  deck : DeckConfig
  heads : Pair HeadConfig
  motion : Vector MotionProfile 4
  profiles : Vector SocketProfile 4
  sites : Vector SiteConfig 32
  bins : Vector BinEntry 64
  /-- The output stations each class lists, in list order. -/
  classes : Vector (List (Fin 8)) 8
  deriving DecidableEq, Repr

/-! ## Site controller and tester link -/

/-- The ten socket states (section 1.2). -/
inductive SocketState where
  | disabled | locked | retired | empty | recovering | seated | testing | releasing | unloadReady | jammed
  deriving DecidableEq, Repr

/-- Stop-pending: the out-of-service state a socket will enter (R21). -/
inductive StopPending where
  | none | disable | lock | retire
  deriving DecidableEq, Repr

/-- The kinds of socket timer (R3). -/
inductive TimerKind where
  | contact | endOfTest | release | recovery
  deriving DecidableEq, Repr

/-- The one timer of a socket: stopped, running with its kind, expiry time and the duration it started with in µs, or
expired, which only a contact timer stays (R1, R3). -/
inductive Timer where
  | stopped
  | running (kind : TimerKind) (expiry duration : Nat)
  | expired
  deriving DecidableEq, Repr

/-- The socket record (R1). -/
structure Socket where
  state : SocketState
  ready : Bool
  bound : Option HeadId
  stop : StopPending
  unit : Option Handle
  bad : Nat
  latch : Bool
  timer : Timer
  start : Nat
  deriving DecidableEq, Repr

/-- The late marker of a test record (R2). -/
inductive LateMarker where
  | none | timeout | drop
  deriving DecidableEq, Repr

/-- The test record (R2). -/
structure TestRecord where
  isOpen : Bool
  serial : Word
  late : LateMarker
  deriving DecidableEq, Repr

/-- What the site controller and the tester link hold. -/
structure SiteBlock where
  sockets : Vector Socket 32
  tests : Vector TestRecord 32
  deriving DecidableEq, Repr

/-! ## Unit table -/

/-- The unit states (section 2.2). -/
inductive UnitState where
  | fresh | inSocket | tested | queued | retest
  deriving DecidableEq, Repr

/-- Where a unit is: exactly one nozzle, site or strip pocket (R31). -/
inductive Place where
  | nozzle (h : HeadId) (k : Nozzle)
  | site (i : Site)
  | strip (p : Fin 16)
  deriving DecidableEq, Repr

/-- One attempt: site, bin map entry, duration in ms (R33). -/
structure Attempt where
  site : Site
  bin : Fin 64
  duration : Nat
  deriving DecidableEq, Repr

/-- A unit's disposition (R29, R34). -/
inductive Disposition where
  | absent
  | cls (c : Fin 8)
  | retestWanted (fallback : Fin 8)
  deriving DecidableEq, Repr

/-- The reason flags of a unit (R29). -/
structure Reasons where
  stripFull : Bool
  noSite : Bool
  untested : Bool
  timeoutSeen : Bool
  dropSeen : Bool
  deriving DecidableEq, Repr

/-- A unit record in use (R29); its handle is its index. -/
structure UnitRecord where
  serial : Word
  station : Fin 2
  tray : BitVec 16
  pocket : Nat
  pickOrder : Word
  state : UnitState
  place : Place
  attempts : List Attempt
  disposition : Disposition
  reasons : Reasons
  deriving DecidableEq, Repr

/-- A strip pocket record (R40). -/
structure StripPocket where
  content : Option Handle
  reservation : Option HeadId
  blocked : Bool
  deriving DecidableEq, Repr

/-- An entry of the retest list (R42). -/
structure RetestEntry where
  unit : Handle
  pocket : Fin 16
  claim : Option HeadId
  deriving DecidableEq, Repr

/-- What the unit table holds. A free record is `none`. -/
structure UnitTable where
  records : Vector (Option UnitRecord) 64
  counter : Word
  retest : List RetestEntry
  strip : Vector StripPocket 16
  deriving DecidableEq, Repr

/-! ## Service planner -/

/-- The nine head states (R53). -/
inductive HeadState where
  | stopped | idle | bound | railWait | moving | acting | socketWait | binWait | yielding
  deriving DecidableEq, Repr

/-- The job kinds (R56). -/
inductive JobKind where
  | feed | load | swap | unload | sort | yield
  deriving DecidableEq, Repr

/-- A job record (R56). -/
structure Job where
  kind : JobKind
  site : Option Site
  level : Nat
  raised : Nat
  pickNozzle : Option Nozzle
  placeNozzle : Option Nozzle
  taken : List Handle
  legsDone : Nat
  deriving DecidableEq, Repr

/-- The kinds of leg (R56). -/
inductive LegKind where
  | pick | place | travel
  deriving DecidableEq, Repr

/-- Where a leg goes (R56). -/
inductive Location where
  | input (s : Fin 2) (pocket : Nat)
  | output (s : Fin 8) (pocket : Nat)
  | strip (p : Fin 16)
  | socket (i : Site)
  | clearance (x : Nat)
  deriving DecidableEq, Repr

/-- A leg record (R56). -/
structure Leg where
  kind : LegKind
  nozzle : Option Nozzle
  location : Location
  x : Nat
  y : Nat
  unit : Option Handle
  frame : Option FrameId
  deriving DecidableEq, Repr

/-- The load state of a head (R52, R54). -/
inductive LoadState where
  | empty | loaded
  deriving DecidableEq, Repr

/-- A head record (R52). -/
structure HeadRecord where
  state : HeadState
  x : Nat
  y : Nat
  slots : Vector (Option Handle) 4
  load : LoadState
  job : Option Job
  legs : List Leg
  binLatch : Bool
  deriving DecidableEq, Repr

/-- The kinds of service request (section 1.5). -/
inductive RequestKind where
  | load | swap | unload
  deriving DecidableEq, Repr

/-- A pending service request; its site is its index in the pending set, and its level is filled in at selection, as the
job's level (R19, R20). -/
structure Request where
  kind : RequestKind
  raised : Nat
  deriving DecidableEq, Repr

/-- What the service planner holds (R52): the two head records, the pending set (at most one request a site) and the
supply marker, true for AVAILABLE. -/
structure Planner where
  heads : Pair HeadRecord
  requests : Vector (Option Request) 32
  supply : Bool
  deriving DecidableEq, Repr

/-! ## Rail arbiter and motion link controller -/

/-- A waiting leg at the rail arbiter (R82); its head is its index. -/
structure WaitingLeg where
  x : Nat
  y : Nat
  swept : Interval
  level : Nat
  deriving DecidableEq, Repr

/-- What the rail arbiter holds (R78). -/
structure Rail where
  reserved : Pair (Option Interval)
  waiting : Pair (Option WaitingLeg)
  deriving DecidableEq, Repr

/-- PICK or PLACE. -/
inductive Action where
  | pick | place
  deriving DecidableEq, Repr

/-- A watchdog: its expiry time on the internal time base, or stopped (R109). -/
inductive Watchdog where
  | running (expiry : Nat)
  | stopped
  deriving DecidableEq, Repr

/-- A command record of the motion link controller (R109). -/
inductive CommandRecord where
  | empty
  | travel (x y : Nat) (profileX profileY : Fin 4) (dog : Watchdog)
  | act (nozzle : Nozzle) (action : Action) (attempt : Nat) (dog : Watchdog)
  deriving DecidableEq, Repr

/-! ## Tray frame unit -/

/-- The six frame states (chapter 7). -/
inductive FrameState where
  | free | posted | active | close | spent | rejected
  deriving DecidableEq, Repr

/-- A pocket mark (R127). -/
inductive PocketMark where
  | isOpen
  | reserved (h : HeadId)
  | done
  deriving DecidableEq, Repr

/-- The copy of a frame's host fields taken at activation (R130). The serial list is copied for an EXPLICIT input frame. -/
structure FrameCopy where
  station : Station
  tray : BitVec 16
  rows : Nat
  columns : Nat
  explicit : Bool
  baseSerial : Word
  occupancy : BitVec 128
  serials : List Word
  deriving DecidableEq, Repr

/-- A frame record (R127): the frame's state, the copy, one mark per pocket and the pockets done count. -/
structure FrameRecord where
  state : FrameState
  copy : Option FrameCopy
  marks : List PocketMark
  done : Nat
  deriving DecidableEq, Repr

/-- What the tray frame unit holds. -/
structure TrayBlock where
  frames : Vector FrameRecord 12
  inputs : List FrameId
  deriving DecidableEq, Repr

/-! ## Notice board controller -/

/-- The notice kinds (section 8.4). -/
inductive NoticeKind where
  | unitLost | socketJam | eotTimeout | siteDropped | strayEnd | lateEnd | siteRetired | motionTimeout | actionTimeout
  | driveFault | pocketBlocked | frameWriteRefused
  deriving DecidableEq, Repr

/-- The causes of a UNIT_LOST notice (R48). -/
inductive LossCause where
  | manualClear | vacuumLost | stripPickFailed
  deriving DecidableEq, Repr

/-- A notice with its optional fields (section 8.4). A station without a pocket has `pocket` none. -/
structure Notice where
  kind : NoticeKind
  head : Option HeadId := none
  nozzle : Option Nozzle := none
  site : Option Site := none
  station : Option Station := none
  pocket : Option Nat := none
  serial : Option Word := none
  bin : Option Byte := none
  cause : Option LossCause := none
  time : Nat := 0
  suppressed : Nat := 0
  deriving DecidableEq, Repr

/-- What the notice board controller holds beside the slots in memory (R155). -/
structure Board where
  queue : List Notice
  sequence : BitVec 16
  deriving DecidableEq, Repr

/-! ## Registers, attention unit and operating-state control -/

/-- The fields behind the registers (R150) that no other block holds. IDENT is fixed, and STATUS shows also the device
state, hold acknowledge and the notice stall. -/
structure Registers where
  threshold : BitVec 3
  result : Byte
  attention : BitVec 6
  /-- LEVELS; unnamed bits are 0. -/
  levels : Word
  errorAddress : BitVec 16
  /-- The top class as R154 last found it. -/
  top : Option AttentionClass
  interrupt : Bool
  deriving DecidableEq, Repr

/-- The wait of an ARM in progress for the head positions: the new copies, the positions taken and the end of the wait
(R164 to R166). -/
structure ArmWait where
  copies : Shadow
  positions : Pair (Option Point)
  expiry : Nat
  deriving DecidableEq, Repr

/-- What operating-state control holds (R173). The ARM marker is set while `arming` holds a wait. -/
structure Control where
  state : DeviceState
  drainLatch : Bool
  holdAck : Bool
  arming : Option ArmWait
  deriving DecidableEq, Repr

/-! ## Messages out and follow-up work -/

/-- What the 7340 sends: on the tester link, on the motion link, and the interrupt message to the host. -/
inductive Message where
  | start (site : Site) (serial : Word)
  | travel (head : HeadId) (x y : Nat) (profileX profileY : Fin 4)
  | act (head : HeadId) (nozzle : Nozzle) (action : Action)
  | contact (site : Site)
  | release (site : Site)
  | stopAll
  | positionRequest (head : HeadId)
  | interrupt
  deriving DecidableEq, Repr

/-- Follow-up work one event starts: what R66, R64, R175 and R180 say happens once the event's own effects are in place,
an expiry taken directly after the event that started its timer (R3), and a later word of a wide host write (R148). -/
inductive Task where
  /-- A request of the site has entered the pending set (R66, R73). -/
  | entered (i : Site)
  /-- Selection for every head that is IDLE or BIN_WAIT (R66). -/
  | selectIdle
  /-- Selection for one head (R66). -/
  | selectHead (h : HeadId)
  /-- The action of a head's leg has been reported done or failed to the owners; the planner goes on (R64). -/
  | legEnd (h : HeadId) (ok : Bool)
  /-- Step 3 of a RUN from HELD (R170). -/
  | runEntry
  /-- The test of R180. -/
  | drainTest
  /-- A socket timer of duration 0 expires (R3). -/
  | expiry (i : Site)
  /-- A later aligned word of a host write (R148). -/
  | hostWord (a : Nat) (enables : BitVec 4) (value : Word)
  deriving DecidableEq, Repr

/-! ## The state -/

/-- The state of the 7340. Every field is plain data. -/
structure State where
  /-- The commands that wait, first in, first out. -/
  pending : List Instr
  /-- Operating-state control (R173). -/
  control : Control
  /-- The fields behind the registers (R150). -/
  regs : Registers
  /-- Exchange memory: the bytes that differ from what an unlisted address reads as (R146). -/
  mem : List Host.Cell
  /-- The configuration loader's shadow copies; none after a reset (R159). -/
  shadow : Option Shadow
  /-- Site controller and tester link (R1, R2). -/
  sites : SiteBlock
  /-- Unit table (R29, R40, R42). -/
  units : UnitTable
  /-- Service planner (R52). -/
  planner : Planner
  /-- Rail arbiter (R78). -/
  rail : Rail
  /-- The command records of the motion link controller (R109). -/
  link : Pair CommandRecord
  /-- Tray frame unit (R127). -/
  trays : TrayBlock
  /-- Notice board controller (R155). -/
  board : Board
  /-- The internal time base, in µs (R3). -/
  time : Nat
  /-- The model's own: every message sent since power was applied, oldest first (log entry 4). -/
  outbox : List Message
  /-- The model's own: follow-up work of the event in hand, oldest first; empty between events (log entry 7). -/
  agenda : List Task
  /-- The model's own: what is taken once the agenda is empty; empty between events (log entry 7). -/
  trailing : List Task
  /-- The model's own: how many times a head has been taken first where the spec lets either be; the argument of the free
  value `Config.eitherHead` (log entry 6). -/
  choices : Nat
  deriving DecidableEq, Repr

/-! ## Reset values -/

/-- The reset value of a socket record (R1). -/
def Socket.reset : Socket :=
  { state := .disabled, ready := false, bound := none, stop := .none, unit := none, bad := 0, latch := false,
    timer := .stopped, start := 0 }

/-- The reset value of a test record (R2). -/
def TestRecord.reset : TestRecord := { isOpen := false, serial := 0#32, late := .none }

/-- The reset value of a strip pocket (R40). -/
def StripPocket.reset : StripPocket := { content := none, reservation := none, blocked := false }

/-- The reset value of the unit table (R29, R40). -/
def UnitTable.reset : UnitTable :=
  { records := Vector.replicate 64 none, counter := 0#32, retest := [], strip := Vector.replicate 16 StripPocket.reset }

/-- The reset value of a head record (R52). -/
def HeadRecord.reset : HeadRecord :=
  { state := .stopped, x := 0, y := 0, slots := Vector.replicate 4 none, load := .empty, job := none, legs := [],
    binLatch := false }

/-- The reset value of the service planner (R52). -/
def Planner.reset : Planner :=
  { heads := ⟨HeadRecord.reset, HeadRecord.reset⟩, requests := Vector.replicate 32 none, supply := false }

/-- The reset value of a frame record (R127). -/
def FrameRecord.reset : FrameRecord := { state := .free, copy := none, marks := [], done := 0 }

/-- The reset value of the registers' fields after power-on (R150). -/
def Registers.reset : Registers :=
  { threshold := 0#3, result := 0#8, attention := 0#6, levels := 0#32, errorAddress := 0#16, top := none,
    interrupt := false }

/-- The machine right after a power-on reset (R184): every record at its reset value, memory with nothing listed, no
command waiting, and the STOP(all) of R126 sent. -/
def State.reset : State :=
  { pending := []
    control := { state := .unarmed, drainLatch := false, holdAck := false, arming := none }
    regs := Registers.reset
    mem := []
    shadow := none
    sites := { sockets := Vector.replicate 32 Socket.reset, tests := Vector.replicate 32 TestRecord.reset }
    units := UnitTable.reset
    planner := Planner.reset
    rail := { reserved := ⟨none, none⟩, waiting := ⟨none, none⟩ }
    link := ⟨.empty, .empty⟩
    trays := { frames := Vector.replicate 12 FrameRecord.reset, inputs := [] }
    board := { queue := [], sequence := 0#16 }
    time := 0
    outbox := [.stopAll]
    agenda := []
    trailing := []
    choices := 0 }

/-! ## Why a step stops -/

/-- Faults. -/
inductive Fault where
  /-- Raised by EXCHANGE_MEMORY_WRITE alone, when the write reaches past offset 0xFFFF, where there is no exchange memory
  (section 8.1). Safe: the model stops, with nothing written, where the spec describes no such access. -/
  | outsideExchangeMemory (offset length : Nat)
  deriving DecidableEq, Repr

/-- Refusals. -/
inductive Refusal where
  /-- Raised by an arm of `exec` for a command that has no meaning yet; no arm is one. Safe: the model stops. -/
  | notModelled (mnemonic : String)
  deriving DecidableEq, Repr

/-- What a step answers. -/
abbrev Answer := Host.Outcome State Fault Refusal

end Sys2Proof.Machine
end

