-- ==== Sys2Proof/Machine/Flags.lean ====
section
/-! DEFINITION. The attention unit (R153, R154): flags, levels, threshold, top class and interrupt. -/

namespace Sys2Proof.Machine

/-- The bit of a class in ATTENTION (R150). -/
def AttentionClass.bit : AttentionClass → Nat
  | .tray => 0
  | .notice => 1
  | .state => 2
  | .bin => 3
  | .site => 4
  | .supply => 5

/-- The classes in the order R154 takes on equal levels. -/
def attentionClasses : List AttentionClass := [.tray, .notice, .state, .bin, .site, .supply]

/-- The level LEVELS gives a class: three bits at four times its bit number (R150). -/
def levelOf (levels : Word) (c : AttentionClass) : Nat := (levels.extractLsb' (4 * c.bit) 3).toNat

/-- The named bits of LEVELS (R150). -/
def levelsMask : Word := 0x00777777#32

/-- A class contributes when its flag is set and its level is 1 to 7 (R154). -/
def contributes (r : Registers) (c : AttentionClass) : Bool :=
  r.attention.getLsbD c.bit && levelOf r.levels c != 0

/-- The contributing class with the highest level, the first in the order on equal levels (R154). -/
def topClass (r : Registers) : Option AttentionClass :=
  attentionClasses.foldl
    (fun best c =>
      if contributes r c then
        match best with
        | none => some c
        | some d => if levelOf r.levels d < levelOf r.levels c then some c else some d
      else best)
    none

/-- The interrupt is raised while the top class is not none and its level is greater than the threshold (R154). -/
def interruptRaised (r : Registers) : Bool :=
  match topClass r with
  | none => false
  | some c => r.threshold.toNat < levelOf r.levels c

/-- A message handed to a link. -/
def State.send (s : State) (m : Message) : State := { s with outbox := s.outbox ++ [m] }

/-- The registers after a change of a flag, of LEVELS or of the threshold: the top class and the interrupt are found again,
and one interrupt message is sent at a change from lowered to raised (R154). -/
def State.setRegisters (s : State) (r : Registers) : State :=
  let up := interruptRaised r
  let s' := { s with regs := { r with top := topClass r, interrupt := up } }
  if up && !s.regs.interrupt then s'.send .interrupt else s'

/-- A block sets the flag of a class (R153). -/
def State.setFlag (s : State) (c : AttentionClass) : State :=
  s.setRegisters { s.regs with attention := s.regs.attention ||| (1#6 <<< c.bit) }

/-- A host write to ATTENTION clears each flag written 1 (R153). -/
def State.clearFlags (s : State) (value : Word) : State :=
  s.setRegisters { s.regs with attention := s.regs.attention &&& ~~~(value.extractLsb' 0 6) }

/-- A host write to LEVELS (R154). -/
def State.setLevels (s : State) (value : Word) : State :=
  s.setRegisters { s.regs with levels := value &&& levelsMask }

/-- The threshold of a CONTROL write (R150). -/
def State.setThreshold (s : State) (threshold : BitVec 3) : State :=
  s.setRegisters { s.regs with threshold := threshold }

/-- The result field of STATUS (R150). -/
def State.setResult (s : State) (code : Nat) : State :=
  { s with regs := { s.regs with result := BitVec.ofNat 8 code } }

/-- ERROR_ADDRESS (R152). -/
def State.setErrorAddress (s : State) (a : Nat) : State :=
  { s with regs := { s.regs with errorAddress := BitVec.ofNat 16 a } }

/-! ## What the host reads (R150, R151) -/

/-- The code of a device state in STATUS (R150). -/
def DeviceState.code : DeviceState → Nat
  | .unarmed => 0
  | .held => 1
  | .run => 2
  | .holding => 3
  | .draining => 4
  | .drained => 5
  | .halted => 6

/-- The code of the top class in STATUS (R150). -/
def topCode : Option AttentionClass → Nat
  | none => 0
  | some c => c.bit + 1

/-- STATUS (R150, R151). -/
def statusWord (s : State) : Word :=
  BitVec.ofNat 32 (s.control.state.code + s.regs.result.toNat * 0x100 + s.control.holdAck.toNat * 0x10000
    + topCode s.regs.top * 0x100000 + s.regs.interrupt.toNat * 0x800000 + (!s.board.queue.isEmpty).toNat * 0x1000000)

/-- A host read of the register window at an aligned offset (R150): the request field of CONTROL reads NONE, and unused
offsets read zero. -/
def readRegister (s : State) (offset : Nat) : Word :=
  match offset with
  | 0x00 => BitVec.ofNat 32 (Config.partCode + Config.revision * 0x10000)
  | 0x04 => BitVec.ofNat 32 (s.regs.threshold.toNat * 0x100)
  | 0x08 => statusWord s
  | 0x0C => s.regs.attention.setWidth 32
  | 0x10 => s.regs.levels
  | 0x14 => s.regs.errorAddress.setWidth 32
  | _ => 0#32

end Sys2Proof.Machine
end

