-- ==== Sys2Proof/Machine/Memory.lean ====
section
/-! DEFINITION. Exchange memory (R146, R172): what an unlisted address reads as, one byte read and written in canonical
form, aligned little-endian words, and a cleared range. -/

namespace Sys2Proof.Machine

/-- What an address with no entry reads as: the identity block's fixed bytes, and zero everywhere else, as after a power-on
reset (R146, R172, R184). -/
def background (a : Nat) : Byte := Config.identityBytes.getD a 0#8

/-- The areas whose writes are stored: all but the identity block, the not-backed range, and what lies past the 64 KiB
(section 8.1). -/
def writable (a : Nat) : Bool := (0x40 ≤ a && a < 0x1800) || (0x4000 ≤ a && a < 0x10000)

/-- One byte of exchange memory. -/
def readByte : List Host.Cell → Nat → Byte
  | [], a => background a
  | c :: rest, a => if c.1 = a then c.2 else readByte rest a

/-- An entry put before the first entry of a higher address. -/
def insertCell : List Host.Cell → Host.Cell → List Host.Cell
  | [], c => [c]
  | d :: rest, c => if c.1 < d.1 then c :: d :: rest else d :: insertCell rest c

/-- One byte written; a write outside the writable areas is dropped, and a write of what an unlisted address reads as leaves
no entry. -/
def writeByte (m : List Host.Cell) (a : Nat) (v : Byte) : List Host.Cell :=
  if writable a then
    let rest := m.filter fun c => c.1 != a
    if v = background a then rest else insertCell rest (a, v)
  else m

/-- A range returned to what unlisted addresses read as: zero, in the areas the 7340 clears. -/
def clearRange (m : List Host.Cell) (a n : Nat) : List Host.Cell :=
  m.filter fun c => c.1 < a || a + n ≤ c.1

/-- Addresses rising strictly from a bound on. -/
def risingFrom : Nat → List Host.Cell → Bool
  | _, [] => true
  | b, c :: rest => decide (b ≤ c.1) && risingFrom (c.1 + 1) rest

/-- The canonical form of exchange memory: addresses strictly rising, each in a writable area, and no entry equal to what an
unlisted address reads as. -/
def Memory.wf (m : List Host.Cell) : Bool :=
  risingFrom 0 m && m.all fun c => writable c.1 && c.2 != background c.1

/-- The aligned 32-bit word at an offset, little-endian. -/
def readWord (m : List Host.Cell) (a : Nat) : Word :=
  readByte m (a + 3) ++ readByte m (a + 2) ++ readByte m (a + 1) ++ readByte m a

/-- The 16-bit field at an offset, little-endian. -/
def readHalf (m : List Host.Cell) (a : Nat) : BitVec 16 := readByte m (a + 1) ++ readByte m a

/-- An aligned 32-bit word written. -/
def writeWord (m : List Host.Cell) (a : Nat) (w : Word) : List Host.Cell :=
  writeByte (writeByte (writeByte (writeByte m a (w.extractLsb' 0 8)) (a + 1) (w.extractLsb' 8 8)) (a + 2)
    (w.extractLsb' 16 8)) (a + 3) (w.extractLsb' 24 8)

/-- Aligned words written one after the other from an offset on. -/
def writeWords (m : List Host.Cell) (a : Nat) : List Word → List Host.Cell
  | [] => m
  | w :: ws => writeWords (writeWord m a w) (a + 4) ws

/-- A word put together from four bytes given as numbers, the first at the lowest offset. -/
def packBytes (b0 b1 b2 b3 : Nat) : Word :=
  BitVec.ofNat 8 b3 ++ BitVec.ofNat 8 b2 ++ BitVec.ofNat 8 b1 ++ BitVec.ofNat 8 b0

end Sys2Proof.Machine
end

