-- ==== Sys2Proof/Machine/Ops.lean ====
section
/-! DEFINITION. The named reads and updates of the machine's records that every block shares: sockets, test records, units,
heads, requests, frames, the shadow copies, timers on the internal time base, and the follow-up work of an event. -/

namespace Sys2Proof.Machine

/-! ## The shadow copies -/

/-- No copy: every field zero. No block reads a copy before an accepted ARM (R159). -/
def Shadow.absent : Shadow :=
  { deck :=
      { railLength := 0, yTravel := 0, nozzlePitch := 0, separation := 0, pickRetries := 0, placeRetries := 0,
        actionLimit := 0, preemption := false, untestedClass := 0, stations := Vector.replicate 11 ⟨0, 0, 0, 0, 0, 0⟩,
        sockets := Vector.replicate 32 ⟨0, 0⟩ }
    heads := ⟨⟨0, 0, 0, 0, 0, 0⟩, ⟨0, 0, 0, 0, 0, 0⟩⟩
    motion := Vector.replicate 4 ⟨0, 0, 0⟩
    profiles := Vector.replicate 4 ⟨0, 0, 0, 0⟩
    sites := Vector.replicate 32 ⟨false, 0, 0, 0, false⟩
    bins := Vector.replicate 64 ⟨0, false, false, false, 0⟩
    classes := Vector.replicate 8 [] }

/-- The shadow copies the blocks work from. -/
def State.cfg (s : State) : Shadow := s.shadow.getD Shadow.absent

/-- The shadow deck record. -/
def State.deck (s : State) : DeckConfig := s.cfg.deck

/-- A site's shadow record. -/
def State.siteCfg (s : State) (i : Site) : SiteConfig := s.cfg.sites[i]

/-- The socket profile a site names. -/
def State.profile (s : State) (i : Site) : SocketProfile := s.cfg.profiles[(s.siteCfg i).profile]

/-! ## Records by index -/

/-- All sites in order. -/
def allSites : List Site := List.finRange 32

/-- All frames in order. -/
def allFrames : List FrameId := List.finRange 12

/-- The nozzles in order. -/
def allNozzles : List Nozzle := [0, 1, 2, 3]

/-- A socket record. -/
def State.socket (s : State) (i : Site) : Socket := s.sites.sockets[i]

/-- A socket record replaced. -/
def State.setSocket (s : State) (i : Site) (r : Socket) : State :=
  { s with sites := { s.sites with sockets := s.sites.sockets.set i r } }

/-- A test record. -/
def State.test (s : State) (i : Site) : TestRecord := s.sites.tests[i]

/-- A test record replaced. -/
def State.setTest (s : State) (i : Site) (r : TestRecord) : State :=
  { s with sites := { s.sites with tests := s.sites.tests.set i r } }

/-- A unit record, when in use. -/
def State.unit (s : State) (u : Handle) : Option UnitRecord := s.units.records[u]

/-- A unit record replaced, or freed by `none`. -/
def State.setUnit (s : State) (u : Handle) (r : Option UnitRecord) : State :=
  { s with units := { s.units with records := s.units.records.set u r } }

/-- A unit record changed, when in use. -/
def State.modUnit (s : State) (u : Handle) (f : UnitRecord → UnitRecord) : State :=
  s.setUnit u ((s.unit u).map f)

/-- The serial of a unit. -/
def State.serialOf (s : State) (u : Option Handle) : Option Word := (u.bind s.unit).map (·.serial)

/-- A strip pocket record. -/
def State.stripPocket (s : State) (p : Fin 16) : StripPocket := s.units.strip[p]

/-- A strip pocket record replaced. -/
def State.setStrip (s : State) (p : Fin 16) (r : StripPocket) : State :=
  { s with units := { s.units with strip := s.units.strip.set p r } }

/-- The retest list replaced. -/
def State.setRetest (s : State) (l : List RetestEntry) : State :=
  { s with units := { s.units with retest := l } }

/-- A head record. -/
def State.head (s : State) (h : HeadId) : HeadRecord := s.planner.heads.get h

/-- A head record replaced. -/
def State.setHead (s : State) (h : HeadId) (r : HeadRecord) : State :=
  { s with planner := { s.planner with heads := s.planner.heads.set h r } }

/-- A head's state (R53). -/
def State.setHeadState (s : State) (h : HeadId) (st : HeadState) : State :=
  s.setHead h { s.head h with state := st }

/-- What a nozzle holds. -/
def State.slot (s : State) (h : HeadId) (k : Nozzle) : Option Handle := (s.head h).slots[k]

/-- A nozzle slot changed, and the load state set again (R54). -/
def State.setSlot (s : State) (h : HeadId) (k : Nozzle) (u : Option Handle) : State :=
  let slots := (s.head h).slots.set k u
  let load := if allNozzles.any fun n => slots[n].isSome then LoadState.loaded else LoadState.empty
  s.setHead h { s.head h with slots := slots, load := load }

/-- A site's pending request. -/
def State.request (s : State) (i : Site) : Option Request := s.planner.requests[i]

/-- A site's pending request replaced. -/
def State.setRequest (s : State) (i : Site) (r : Option Request) : State :=
  { s with planner := { s.planner with requests := s.planner.requests.set i r } }

/-- A head's reservation. -/
def State.setReserved (s : State) (h : HeadId) (iv : Option Interval) : State :=
  { s with rail := { s.rail with reserved := s.rail.reserved.set h iv } }

/-- A head's waiting leg. -/
def State.setWaiting (s : State) (h : HeadId) (w : Option WaitingLeg) : State :=
  { s with rail := { s.rail with waiting := s.rail.waiting.set h w } }

/-- A head's command record. -/
def State.setCommand (s : State) (h : HeadId) (c : CommandRecord) : State :=
  { s with link := s.link.set h c }

/-- A frame record. -/
def State.frame (s : State) (f : FrameId) : FrameRecord := s.trays.frames[f]

/-- A frame record replaced. -/
def State.setFrame (s : State) (f : FrameId) (r : FrameRecord) : State :=
  { s with trays := { s.trays with frames := s.trays.frames.set f r } }

/-- Exchange memory replaced. -/
def State.setMem (s : State) (m : List Host.Cell) : State := { s with mem := m }

/-- The 7340 writes an aligned word of exchange memory. -/
def State.poke (s : State) (a : Nat) (w : Word) : State := s.setMem (writeWord s.mem a w)

/-- The device state. -/
def State.setDevice (s : State) (d : DeviceState) : State := { s with control := { s.control with state := d } }

/-- The device state, tested. -/
def State.isIn (s : State) (d : DeviceState) : Bool := s.control.state == d

/-- The heads take work: RUN or DRAINING. -/
def State.working (s : State) : Bool := s.isIn .run || s.isIn .draining

/-! ## Follow-up work -/

/-- A task put behind the tasks of the event in hand. -/
def State.push (s : State) (t : Task) : State := { s with agenda := s.agenda ++ [t] }

/-- A task taken directly after the event in hand (R3). -/
def State.pushTrailing (s : State) (t : Task) : State := { s with trailing := t :: s.trailing }

/-! ## Time -/

/-- The time in ms since the last ARM, 32-bit, wrapping (R147, R155). -/
def State.stamp (s : State) : Nat := s.time / 1000 % 4294967296

/-- An expiry event: the internal time base stands at the expiry time or later (R3; log entry 3). -/
def State.reach (s : State) (expiry : Nat) : State := { s with time := max s.time expiry }

/-- A duration of the socket profile in µs (R3). -/
def timerDuration (p : SocketProfile) : TimerKind → Nat
  | .contact => p.contact * 1000
  | .endOfTest => p.endOfTest * 1000000
  | .release => p.release * 1000
  | .recovery => p.recovery * 1000

/-- The timer of a kind that starts now at a site. An end-of-test limit of 0 starts no watchdog (R3). -/
def State.newTimer (s : State) (i : Site) (kind : TimerKind) : Timer :=
  let d := timerDuration (s.profile i) kind
  if kind = .endOfTest ∧ d = 0 then .stopped else .running kind (s.time + d) d

/-- A socket enters a state in which a timer starts. A duration of 0 expires directly after the event in hand (R3). -/
def State.enterTimed (s : State) (i : Site) (st : SocketState) (kind : TimerKind) : State :=
  let t := s.newTimer i kind
  let s' := s.setSocket i { s.socket i with state := st, timer := t }
  match t with
  | .running _ _ 0 => s'.pushTrailing (.expiry i)
  | _ => s'

/-- A socket enters a state in which its timer is stopped (R3). -/
def State.enterStopped (s : State) (i : Site) (st : SocketState) : State :=
  s.setSocket i { s.socket i with state := st, timer := .stopped }

/-! ## Codes -/

/-- Station codes (section 8.1). -/
def Station.code : Station → Nat
  | .input n => n.val
  | .output n => n.val + 2
  | .strip => 10

/-- The station of a code, STRIP among them. -/
def stationOfCode (c : Nat) : Option Station :=
  if h : c < 2 then some (.input ⟨c, h⟩)
  else if h : c - 2 < 8 then some (.output ⟨c - 2, h⟩)
  else if c = 10 then some .strip else none

/-- Head codes (section 8.1). -/
def HeadId.code : HeadId → Nat
  | .a => 0
  | .b => 1

/-- Notice kind codes (section 8.4). -/
def NoticeKind.code : NoticeKind → Nat
  | .unitLost => 1
  | .socketJam => 2
  | .eotTimeout => 3
  | .siteDropped => 4
  | .strayEnd => 5
  | .lateEnd => 6
  | .siteRetired => 7
  | .motionTimeout => 8
  | .actionTimeout => 9
  | .driveFault => 10
  | .pocketBlocked => 11
  | .frameWriteRefused => 12

/-- Cause codes (section 8.4). -/
def LossCause.code : LossCause → Nat
  | .manualClear => 1
  | .vacuumLost => 2
  | .stripPickFailed => 3

/-- Frame state codes (section 8.3). -/
def FrameState.code : FrameState → Nat
  | .free => 0
  | .posted => 1
  | .active => 2
  | .close => 3
  | .spent => 4
  | .rejected => 5

end Sys2Proof.Machine
end

