-- ==== Sys2Proof/Machine/Calculator.lean ====
section
/-! DEFINITION. The profile calculator (chapter 5): positions, targets, reachability, one-axis move time, leg time and the
travel watchdog limit. It holds no state. -/

namespace Sys2Proof.Machine

/-! ## Positions, targets and fit -/

/-- The position of a station pocket (R95). -/
def pocketPosition (g : Geometry) (columns index : Nat) : Point :=
  { x := g.originX + index % columns * g.pitchX, y := g.originY + index / columns * g.pitchY }

/-- The shadow geometry of a station. -/
def stationGeometry (c : Shadow) : Station → Geometry
  | .input n => c.deck.stations[n.val]
  | .output n => c.deck.stations[n.val + 2]
  | .strip => c.deck.stations[10]

/-- The strip is 2 rows of 8 columns. -/
def stripPosition (c : Shadow) (p : Fin 16) : Point := pocketPosition (stationGeometry c .strip) 8 p

/-- The position of a pocket of a frame's tray, from the frame record's copy (R95). -/
def framePosition (c : Shadow) (copy : FrameCopy) (index : Nat) : Point :=
  pocketPosition (stationGeometry c copy.station) copy.columns index

/-- The position of a socket. -/
def socketPosition (c : Shadow) (i : Site) : Point := c.deck.sockets[i]

/-- The head reference target of a nozzle for a position, when it is reachable (R97). -/
def target (d : DeckConfig) (k : Nozzle) (p : Point) : Option Point :=
  if k.val * d.nozzlePitch ≤ p.x ∧ p.x - k.val * d.nozzlePitch ≤ d.railLength ∧ p.y ≤ d.yTravel then
    some { x := p.x - k.val * d.nozzlePitch, y := p.y }
  else none

/-- The target of a nozzle that fits the position: reachable, and X inside the head's window (R57). -/
def fitTarget (c : Shadow) (h : HeadId) (k : Nozzle) (p : Point) : Option Point :=
  match target c.deck k p with
  | none => none
  | some t => if (c.heads.get h).windowLow ≤ t.x ∧ t.x ≤ (c.heads.get h).windowHigh then some t else none

/-! ## Move time -/

/-- The largest number below `acc + 2 ^ n` whose square is less than q, found bit by bit from `acc` on. -/
def rootSearch (q : Nat) : Nat → Nat → Nat
  | 0, acc => acc
  | n + 1, acc => if (acc + 2 ^ n) * (acc + 2 ^ n) < q then rootSearch q n (acc + 2 ^ n) else rootSearch q n acc

/-- The integer root: the smallest whole number whose square is equal to or greater than q (R101). -/
def integerRoot (q : Nat) : Nat := if q = 0 then 0 else rootSearch q (q.log2 / 2 + 1) 0 + 1

/-- The move time of one axis in µs (R101). -/
def moveTime (d v a : Nat) : Nat :=
  if v * v * 1000 ≤ d * a then ceilDiv (d * 1000) v + ceilDiv (v * 1000000) a
  else 2 * integerRoot (ceilDiv (d * 1000000000) a)

/-- The distance between two positions on one axis, formed without wrapping (R101). -/
def distance (a b : Nat) : Nat := max a b - min a b

/-- The X and Y profile indices a head uses for a load state (R99). -/
def profileIndices (c : HeadConfig) : LoadState → Fin 4 × Fin 4
  | .loaded => (c.loadedX, c.loadedY)
  | .empty => (c.emptyX, c.emptyY)

/-- The leg time of a travel (R104). -/
def legTime (x y : MotionProfile) (start finish : Point) : Nat :=
  max (moveTime (distance start.x finish.x) x.velocity x.acceleration)
      (moveTime (distance start.y finish.y) y.velocity y.acceleration)
    + max x.settle y.settle

/-- The travel watchdog limit of a leg time (R106). -/
def travelLimit (t : Nat) : Nat := t + ceilDiv t 8 + 20000

/-- The leg time of a head's travel from where it stands, with the profiles of its present load state (R104, R105). -/
def State.headLegTime (s : State) (h : HeadId) (t : Point) : Nat :=
  let hd := s.head h
  let (px, py) := profileIndices (s.cfg.heads.get h) hd.load
  legTime s.cfg.motion[px] s.cfg.motion[py] ⟨hd.x, hd.y⟩ t

end Sys2Proof.Machine
end

