-- ==== Sys2Proof/Machine/Link.lean ====
section
/-! DEFINITION. The motion link controller's commands (R112, R115, R116): a TRAVEL or an ACT sent, its command record and its
watchdog. -/

namespace Sys2Proof.Machine

/-- One attempt of an action: ACT sent, the command record filled, the action watchdog started with the full action limit
(R115, R116). -/
def State.sendAct (s : State) (h : HeadId) (k : Nozzle) (action : Action) (attempt : Nat) : State :=
  (s.send (.act h k action)).setCommand h (.act k action attempt (.running (s.time + s.deck.actionLimit * 1000)))

/-- An action starts: its first attempt is sent and the head is ACTING (R64, R115). -/
def State.startAct (s : State) (h : HeadId) (k : Nozzle) (action : Action) : State :=
  (s.sendAct h k action 1).setHeadState h .acting

/-- A granted leg's TRAVEL: sent with the profile indices of the load state at the grant, the command record filled, the
travel watchdog started with the limit of the leg time (R99, R106, R112). -/
def State.sendTravel (s : State) (h : HeadId) (x y : Nat) : State :=
  let (px, py) := profileIndices (s.cfg.heads.get h) (s.head h).load
  let limit := travelLimit (s.headLegTime h ⟨x, y⟩)
  (s.send (.travel h x y px py)).setCommand h (.travel x y px py (.running (s.time + limit)))

/-- The retry count of an action (R116). -/
def State.retries (s : State) : Action → Nat
  | .pick => s.deck.pickRetries
  | .place => s.deck.placeRetries

/-- The judgement of one attempt by its vacuum held field (R116). -/
def Action.success (action : Action) (vacuum : Bool) : Bool :=
  match action with
  | .pick => vacuum
  | .place => !vacuum

/-- The action of a leg; a TRAVEL leg has none. -/
def LegKind.action : LegKind → Option Action
  | .pick => some .pick
  | .place => some .place
  | .travel => none

/-- A watchdog stopped, the command kept (R119, R120, R124). -/
def CommandRecord.stopDog : CommandRecord → CommandRecord
  | .empty => .empty
  | .travel x y px py _ => .travel x y px py .stopped
  | .act k action attempt _ => .act k action attempt .stopped

end Sys2Proof.Machine
end

