-- ==== Sys2Proof/Machine/Board.lean ====
section
/-! DEFINITION. The notice board controller (section 8.8): a notice arriving, written into a slot, queued or dropped, and a
slot freed by the host. -/

namespace Sys2Proof.Machine

/-- The slots in order. -/
def allSlots : List SlotId := List.finRange 32

/-- The slot's state word reads FREE. -/
def slotIsFree (m : List Host.Cell) (k : SlotId) : Bool := readWord m (Config.slotBase k) == 0#32

/-- The lowest-numbered FREE slot (R155). -/
def freeSlot (m : List Host.Cell) : Option SlotId := allSlots.find? (slotIsFree m)

/-- The present mask of a notice (section 8.4). -/
def presentMask (n : Notice) : Nat :=
  n.head.isSome.toNat + n.nozzle.isSome.toNat * 2 + n.site.isSome.toNat * 4 + n.station.isSome.toNat * 8
    + n.serial.isSome.toNat * 16 + n.bin.isSome.toNat * 32 + n.cause.isSome.toNat * 64

/-- The pocket index field: zero without a station, 0xFF for a station without a pocket (section 8.4). -/
def pocketField (n : Notice) : Nat :=
  match n.station with
  | none => 0
  | some _ => n.pocket.getD 0xFF

/-- The fifteen words at 0x04 to 0x3F of a slot (section 8.4); a field whose present bit is clear holds zero. -/
def noticeWords (n : Notice) (sequence : BitVec 16) : List Word :=
  [ packBytes (sequence.toNat % 256) (sequence.toNat / 256) n.kind.code (presentMask n),
    packBytes ((n.head.map HeadId.code).getD 0) ((n.nozzle.map Fin.val).getD 0) ((n.site.map Fin.val).getD 0)
      ((n.station.map Station.code).getD 0),
    packBytes (pocketField n) ((n.bin.map BitVec.toNat).getD 0) ((n.cause.map LossCause.code).getD 0) n.suppressed,
    n.serial.getD 0#32,
    BitVec.ofNat 32 n.time,
    0#32, 0#32, 0#32, 0#32, 0#32, 0#32, 0#32, 0#32, 0#32, 0#32 ]

/-- A notice written into a slot, in the order of R155: fields, counter, FILLED, NOTICE flag. -/
def State.writeNotice (s : State) (k : SlotId) (n : Notice) : State :=
  let base := Config.slotBase k
  let m := writeWord (writeWords s.mem (base + 4) (noticeWords n s.board.sequence)) base 1#32
  ({ s.setMem m with board := { s.board with sequence := s.board.sequence + 1#16 } }).setFlag .notice

/-- The newest queued notice's suppressed count raised by 1, saturating at 255 (R157). -/
def suppressNewest : List Notice → List Notice
  | [] => []
  | [n] => [{ n with suppressed := min 255 (n.suppressed + 1) }]
  | n :: m :: rest => n :: suppressNewest (m :: rest)

/-- The holding queue when one more notice must wait (R155, R157). -/
def enqueue (q : List Notice) (n : Notice) : List Notice :=
  if q.length < Config.queueRoom then q ++ [n] else suppressNewest q

/-- A notice arrives (R155, R157); its time is that of the raising event. -/
def State.raise (s : State) (n : Notice) : State :=
  let n := { n with time := s.stamp, suppressed := 0 }
  let s' := s.setFlag .notice
  match s'.board.queue, freeSlot s'.mem with
  | [], some k => s'.writeNotice k n
  | q, _ => { s' with board := { s'.board with queue := enqueue q n } }

/-- The slot holds FREE after an accepted host write: the oldest queued notice moves into it, and an emptied queue is
reported to the planner and to operating-state control (R149, R156, R66, R180). -/
def State.slotFreed (s : State) (k : SlotId) : State :=
  let s := s.poke (Config.slotBase k) 0#32
  match s.board.queue with
  | [] => s
  | n :: rest =>
    let s' := { s with board := { s.board with queue := rest } }.writeNotice k n
    if rest.isEmpty then (s'.push .selectIdle).push .drainTest else s'

/-- A host write to a slot's state word (R149); `narrow` when it does not write all four bytes (R148). -/
def State.slotWrite (s : State) (k : SlotId) (narrow : Bool) (value : Word) : State :=
  let a := Config.slotBase k
  let held := readWord s.mem a
  if narrow then s.setErrorAddress a
  else if value = held then s
  else if held = 1#32 ∧ value = 0#32 then s.slotFreed k
  else s.setErrorAddress a

end Sys2Proof.Machine
end

