-- ==== Sys2Proof/Machine/Device.lean ====
section
/-! DEFINITION. The two tests operating-state control makes when work in flight ends: a hold completes (R177), a drain
completes (R180). -/

namespace Sys2Proof.Machine

/-- A command is outstanding on the motion link. -/
def CommandRecord.isEmpty : CommandRecord → Bool
  | .empty => true
  | _ => false

/-- Both command records are empty (R125). -/
def State.linkQuiet (s : State) : Bool := (s.link.get .a).isEmpty && (s.link.get .b).isEmpty

/-- Both heads are in a state. -/
def State.bothHeads (s : State) (st : HeadState) : Bool := (s.head .a).state == st && (s.head .b).state == st

/-- The test of R177, and the completion it may find. -/
def State.holdTest (s : State) : State :=
  if s.isIn .holding && s.bothHeads .stopped && s.linkQuiet then
    { s with control := { s.control with state := .held, holdAck := true } }.setFlag .state
  else s

/-- No unit record is in use. -/
def State.tableEmpty (s : State) : Bool := s.units.records.toList.all Option.isNone

/-- The test of R180, and the completion it may find. -/
def State.drainTest (s : State) : State :=
  if s.isIn .draining && s.tableEmpty && s.bothHeads .idle then (s.setDevice .drained).setFlag .state else s

end Sys2Proof.Machine
end

