-- ==== Sys2Proof/Machine/Units.lean ====
section
/-! DEFINITION. The unit table (chapter 2): usable sites, placeability, closures and dispositions, re-routing, losses, the
retest list and the strip pockets. -/

namespace Sys2Proof.Machine

/-! ## Usable sites and placeability -/

/-- The socket states that R36 rules out. -/
def SocketState.outOfUse : SocketState → Bool
  | .disabled | .locked | .retired | .jammed => true
  | .empty | .recovering | .seated | .testing | .releasing | .unloadReady => false

/-- A site is usable (R36). DESIGN CHOICE (log entry 22): a jam-cleared site in RECOVERING is usable from its JAM_CLEAR on, as
R36's definition says, although its last sentence says it is usable again once the recovery returns it to EMPTY. -/
def State.usable (s : State) (i : Site) : Bool :=
  !(s.socket i).state.outOfUse && (s.socket i).stop == .none && (s.siteCfg i).level != 0

/-- The attempts list names the site. -/
def UnitRecord.hasTried (u : UnitRecord) (i : Site) : Bool := u.attempts.any fun t => t.site == i

/-- Site room: a usable site is left outside the attempts list (R38, R44, R46). -/
def State.siteRoom (s : State) (u : UnitRecord) : Bool := allSites.any fun i => s.usable i && !u.hasTried i

/-- Some site is usable (R47). -/
def State.anyUsable (s : State) : Bool := allSites.any s.usable

/-- A unit is placeable at a site (R37). -/
def UnitRecord.placeableAt (u : UnitRecord) (i : Site) : Bool :=
  match u.state with
  | .fresh => true
  | .retest => !u.hasTried i
  | .inSocket | .tested | .queued => false

/-! ## Records -/

/-- The lowest free handle (R30). -/
def State.freeHandle (s : State) : Option Handle := (List.finRange 64).find? fun u => (s.unit u).isNone

/-- A unit record created for a pick done at an input pocket (R30); the handle it takes. The 56 places of R31 leave a free
handle at every such pick, so the last arm is not taken on a deck the machine has kept. -/
def State.createUnit (s : State) (serial : Word) (st : Fin 2) (tray : BitVec 16) (pocket : Nat) (h : HeadId) (k : Nozzle) :
    State × Option Handle :=
  match s.freeHandle with
  | some u =>
    let r : UnitRecord :=
      { serial := serial, station := st, tray := tray, pocket := pocket, pickOrder := s.units.counter, state := .fresh,
        place := .nozzle h k, attempts := [], disposition := .absent,
        reasons := ⟨false, false, false, false, false⟩ }
    let s' := s.setUnit u (some r)
    ({ s' with units := { s'.units with counter := s'.units.counter + 1#32 } }, some u)
  | none => (s, none)

/-- The disposition a closure fixes, n being the number of attempts with the new one (R34). -/
def closingDisposition (e : BinEntry) (n : Nat) : Disposition :=
  if e.retest && n < e.limit then .retestWanted e.cls else .cls e.cls

/-- The class a unit goes to when it is not retested. -/
def Disposition.fallback : Disposition → Fin 8
  | .absent => 0
  | .cls c => c
  | .retestWanted c => c

/-- A closure at the unit table: the attempt appended, the flag of the way it closed, the disposition (R33, R34). -/
def UnitRecord.closed (u : UnitRecord) (e : BinEntry) (t : Attempt) (late : LateMarker) : UnitRecord :=
  let attempts := u.attempts ++ [t]
  { u with
    attempts := attempts
    disposition := closingDisposition e attempts.length
    reasons := { u.reasons with
      timeoutSeen := u.reasons.timeoutSeen || late == .timeout
      dropSeen := u.reasons.dropSeen || late == .drop } }

/-- A unit re-routed to its fallback class because no site is left for it (R44, R46). -/
def UnitRecord.noSite (u : UnitRecord) : UnitRecord :=
  { u with state := .tested, disposition := .cls u.disposition.fallback, reasons := { u.reasons with noSite := true } }

/-- A unit sent to the untested class (R47). -/
def UnitRecord.sentUntested (u : UnitRecord) (c : Fin 8) : UnitRecord :=
  { u with state := .tested, disposition := .cls c, reasons := { u.reasons with untested := true } }

/-! ## Re-routing (R46, R47) -/

/-- The unit is named by the place leg of the head's bound job. -/
def State.inPlaceLeg (s : State) (h : HeadId) (u : Handle) : Bool :=
  (s.head h).job.isSome && (s.head h).legs.any fun l => l.kind == .place && l.unit == some u

/-- The unit record after the checks of R46 and, in DRAINING, of R47; none when it is not re-routed. -/
def State.rerouted (s : State) (u : UnitRecord) : Option UnitRecord :=
  match u.state with
  | .retest => if s.siteRoom u then none else some u.noSite
  | .fresh => if s.isIn .draining && !s.anyUsable then some (u.sentUntested s.deck.untestedClass) else none
  | .inSocket | .tested | .queued => none

/-- The checks of R46 and R47 for the unit on one nozzle. A re-routed unit starts selection for its head (R66). -/
def State.rerouteNozzle (s : State) (h : HeadId) (k : Nozzle) : State :=
  match s.slot h k with
  | none => s
  | some u =>
    if s.inPlaceLeg h u then s
    else
      match (s.unit u).bind s.rerouted with
      | none => s
      | some r => (s.setUnit u (some r)).push (.selectHead h)

/-- The checks of R46 and, in DRAINING, of R47 for every unit on a nozzle; they do not act in HALTED (R46, R51). DESIGN CHOICE
(log entry 23): when units of both heads are re-routed, head A's are checked, and its selection made, before head B's, where
R70 lets either head be taken first. -/
def State.reroute (s : State) : State :=
  if s.isIn .halted || s.isIn .unarmed then s
  else (allNozzles.foldl (fun s k => s.rerouteNozzle .b k) (allNozzles.foldl (fun s k => s.rerouteNozzle .a k) s))

/-- The site controller reports a site that has stopped being usable, `before` being what it was (R36). -/
def State.reportUnusable (s : State) (i : Site) (before : Bool) : State :=
  if before && !s.usable i then s.reroute else s

/-! ## The strip and the retest list -/

/-- A strip pocket is free (R40). -/
def StripPocket.isFree (p : StripPocket) : Bool := p.content.isNone && p.reservation.isNone && !p.blocked

/-- The lowest-numbered free strip pocket (R38). -/
def State.freeStrip (s : State) : Option (Fin 16) := (List.finRange 16).find? fun p => (s.stripPocket p).isFree

/-- The entry of a strip pocket leaves the retest list, which is a retest list change (R42, R44, R45). -/
def State.dropEntry (s : State) (p : Fin 16) : State :=
  (s.setRetest (s.units.retest.filter fun e => e.pocket != p)).push .selectIdle

/-- The claim of a head on a strip pocket's entry set or removed (R43). -/
def State.setClaim (s : State) (p : Fin 16) (claim : Option HeadId) : State :=
  s.setRetest (s.units.retest.map fun e => if e.pocket = p then { e with claim := claim } else e)

/-! ## Leaving the table (R48) -/

/-- A record is freed; each freeing makes the test of R180. -/
def State.freeUnit (s : State) (u : Handle) : State := (s.setUnit u none).drainTest

/-- A lost unit leaves the place its record names: its nozzle, its socket, or its strip pocket and the retest list (R48,
R26). -/
def State.vacate (s : State) (p : Place) : State :=
  match p with
  | .nozzle h k => s.setSlot h k none
  | .site i => s.setSocket i { s.socket i with unit := none }
  | .strip p => (s.setStrip p { s.stripPocket p with content := none }).dropEntry p

/-- A unit is declared LOST: the UNIT_LOST notice with its cause, serial and place, the place left, the record freed
(R48). -/
def State.declareLost (s : State) (u : Handle) (cause : LossCause) : State :=
  match s.unit u with
  | none => s
  | some r =>
    let n : Notice := { kind := .unitLost, cause := some cause, serial := some r.serial }
    let n :=
      match r.place with
      | .nozzle h k => { n with head := some h, nozzle := some k }
      | .site i => { n with site := some i }
      | .strip p => { n with station := some .strip, pocket := some p.val }
    ((s.raise n).vacate r.place).freeUnit u

end Sys2Proof.Machine
end

