-- ==== Sys2Proof/Machine/Sites.lean ====
section
/-! DEFINITION. The site controller and the tester link (chapter 1): service requests, START, closures, the retirement check,
timer expiries, the planner's reports, and the site edits of a RUN from HELD. -/

namespace Sys2Proof.Machine

/-! ## Service requests (R19, R20) -/

/-- The wanted request of a socket that is not bound (the table of R19). -/
def wantedRequest (k : Socket) (level : Nat) : Option RequestKind :=
  match k.state with
  | .unloadReady => if k.stop = .none ∧ level ≠ 0 then some .swap else some .unload
  | .empty => if k.stop = .none ∧ level ≠ 0 ∧ k.ready = true then some .load else none
  | .disabled | .locked | .retired | .recovering | .seated | .testing | .releasing | .jammed => none

/-- The wanted request of a site. -/
def State.wanted (s : State) (i : Site) : Option RequestKind := wantedRequest (s.socket i) (s.siteCfg i).level

/-- A site's service requests brought up to date (R19): raised, changed in kind, withdrawn or left. -/
def State.updateRequests (s : State) (i : Site) : State :=
  match (s.socket i).bound with
  | some _ => s
  | none =>
    match s.request i, s.wanted i with
    | none, some k => (s.setRequest i (some { kind := k, raised := s.time })).push (.entered i)
    | some r, some k => if r.kind = k then s else s.setRequest i (some { r with kind := k })
    | some _, none => s.setRequest i none
    | none, none => s

/-- Bound head returns to none at the end of the head's work there, and R19 runs (R20). -/
def State.unbind (s : State) (i : Site) : State := (s.setSocket i { s.socket i with bound := none }).updateRequests i

/-- Bound head returns to none at a dissolution or preemption: a wanted request returns to the pending set with the raise
time of the bound one (R20). -/
def State.unbindReturn (s : State) (i : Site) (raised : Nat) : State :=
  let s := s.setSocket i { s.socket i with bound := none }
  match s.wanted i with
  | some k => (s.setRequest i (some { kind := k, raised := raised })).push (.entered i)
  | none => s

/-! ## START (R6) -/

/-- START sent for a SEATED socket (R6): the serial of its unit, the start time, the test record opened, the watchdog. -/
def State.sendStart (s : State) (i : Site) : State :=
  let serial := (s.serialOf (s.socket i).unit).getD 0#32
  let s := (s.send (.start i serial)).setTest i { isOpen := true, serial := serial, late := .none }
  let s := s.setSocket i { s.socket i with start := s.time }
  s.enterTimed i .testing .endOfTest

/-! ## Closing a test (R8, R9, R10, R12, R33) -/

/-- The duration of an attempt closed now: whole ms since the start time, saturating (R8, R9). -/
def State.elapsed (s : State) (i : Site) : Nat := min 4294967295 ((s.time - (s.socket i).start) / 1000)

/-- The duration of an attempt closed by the watchdog: the limit that started it, in ms (R10). -/
def watchdogDuration : Timer → Nat
  | .running _ _ d => d / 1000
  | _ => 0

/-- The consecutive-bad count after a count against the socket (R8, R10). -/
def countedBad (n : Nat) : Nat := min 15 (n + 1)

/-- The consecutive-bad count after a normal END (R9). -/
def endCount (e : BinEntry) (n : Nat) : Nat := if e.clears then 0 else if e.counts then countedBad n else n

/-- The retirement check (R12). -/
def State.retireCheck (s : State) (i : Site) : State :=
  let k := s.socket i
  let threshold := (s.siteCfg i).threshold
  if threshold ≠ 0 ∧ threshold ≤ k.bad ∧ (k.stop = .none ∨ k.stop = .disable) then
    let before := s.usable i
    let s := s.setSocket i { k with stop := .retire }
    let s := (s.raise { kind := .siteRetired, site := some i }).setFlag .site
    (s.updateRequests i).reportUnusable i before
  else s

/-- The closure at the unit table of the unit in a socket (R33, R34). -/
def State.closeUnit (s : State) (i : Site) (bin : Fin 64) (duration : Nat) (late : LateMarker) : State :=
  match (s.socket i).unit with
  | none => s
  | some u => s.modUnit u fun r => r.closed s.cfg.bins[bin] { site := i, bin := bin, duration := duration } late

/-- A test closes (R8, R9, R10): the closure at the unit table, the test record, RELEASE, the release timer, the count, and
the retirement check. -/
def State.closeTest (s : State) (i : Site) (bin : Fin 64) (duration : Nat) (late : LateMarker) (bad : Nat) : State :=
  let s := s.closeUnit i bin duration late
  let s := s.setTest i { s.test i with isOpen := false, late := late }
  let s := (s.send (.release i)).enterTimed i .releasing .release
  let s := (s.setSocket i { s.socket i with bad := bad }).updateRequests i
  s.retireCheck i

/-- The bin map entry a bin code selects (R9). -/
def binEntry (bin : Byte) : Fin 64 := if h : bin.toNat ≤ 60 then ⟨bin.toNat, by omega⟩ else 63

/-- The serial of the unit in a socket. -/
def State.socketSerial (s : State) (i : Site) : Option Word := s.serialOf (s.socket i).unit

/-- READY down in TESTING: a site drop (R8). -/
def State.siteDrop (s : State) (i : Site) : State :=
  let serial := s.socketSerial i
  let s := s.closeTest i 62 (s.elapsed i) .drop (countedBad (s.socket i).bad)
  (s.raise { kind := .siteDropped, site := some i, serial := serial, bin := some 62#8 }).setFlag .site

/-- END in TESTING (R9). -/
def State.normalEnd (s : State) (i : Site) (bin : Byte) : State :=
  let e := binEntry bin
  s.closeTest i e (s.elapsed i) .none (endCount s.cfg.bins[e] (s.socket i).bad)

/-- END with no open test (R11): LATE_END with the serial of the closed test, once; STRAY_END otherwise. -/
def State.lateEnd (s : State) (i : Site) (bin : Byte) : State :=
  let t := s.test i
  match t.late with
  | .none => s.raise { kind := .strayEnd, site := some i, bin := some bin }
  | .timeout | .drop =>
    (s.raise { kind := .lateEnd, site := some i, serial := some t.serial, bin := some bin }).setTest i
      { t with late := .none }

/-- READY at a site (R7). -/
def State.takeReady (s : State) (i : Site) (up : Bool) : State :=
  let s := s.setSocket i { s.socket i with ready := up }
  match (s.socket i).state, up with
  | .seated, true => if (s.socket i).timer = .expired ∧ s.isIn .halted = false then s.sendStart i else s
  | .testing, false => s.siteDrop i
  | .empty, _ => s.updateRequests i
  | _, _ => s

/-! ## Timer expiries (R6, R10, R14, R16) -/

/-- The contact timer of a SEATED socket expires (R6). -/
def State.contactExpired (s : State) (i : Site) : State :=
  let s := s.setSocket i { s.socket i with timer := .expired }
  if (s.socket i).ready = true ∧ s.isIn .halted = false then s.sendStart i else s

/-- The end-of-test watchdog of a TESTING socket expires (R10). -/
def State.eotExpired (s : State) (i : Site) : State :=
  let serial := s.socketSerial i
  let s := s.closeTest i 61 (watchdogDuration (s.socket i).timer) .timeout (countedBad (s.socket i).bad)
  (s.raise { kind := .eotTimeout, site := some i, serial := serial, bin := some 61#8 }).setFlag .site

/-- The release timer of a RELEASING socket expires (R14). -/
def State.releaseExpired (s : State) (i : Site) : State := (s.enterStopped i .unloadReady).updateRequests i

/-- The out-of-service state a stop-pending names (R16). -/
def StopPending.target : StopPending → Option SocketState
  | .none => Option.none
  | .disable => some .disabled
  | .lock => some .locked
  | .retire => some .retired

/-- The socket is reported clear to its bound head: one that waits in SOCKET_WAIT places at once, but not in HALTED, where no ACT is sent (R16, R114, R124). -/
def State.socketClear (s : State) (i : Site) (h : HeadId) : State :=
  match (s.head h).state, (s.head h).legs with
  | .socketWait, l :: _ =>
    match l.location, l.nozzle with
    | .socket j, some k => if j = i ∧ s.isIn .halted = false then s.startAct h k .place else s
    | _, _ => s
  | _, _ => s

/-- The recovery timer of a RECOVERING socket expires (R16). -/
def State.recoveryExpired (s : State) (i : Site) : State :=
  match (s.socket i).stop.target with
  | some st =>
    let s := s.enterStopped i st
    (s.setSocket i { s.socket i with stop := .none }).updateRequests i
  | none =>
    let s := s.enterStopped i .empty
    match (s.socket i).bound with
    | some h => s.socketClear i h
    | none => s.updateRequests i

/-- The expiry of whatever timer runs at a site, when the socket is in that timer's state (R3). -/
def State.timerExpired (s : State) (i : Site) : State :=
  match (s.socket i).timer, (s.socket i).state with
  | .running .contact t _, .seated => (s.reach t).contactExpired i
  | .running .endOfTest t _, .testing => (s.reach t).eotExpired i
  | .running .release t _, .releasing => (s.reach t).releaseExpired i
  | .running .recovery t _, .recovering => (s.reach t).recoveryExpired i
  | _, _ => s

/-- The expiry event of one kind of timer at a site; no such timer running, no event (R3; log entry 3). -/
def State.timerEvent (s : State) (i : Site) (kind : TimerKind) : State :=
  match (s.socket i).timer with
  | .running k _ _ => if k = kind then s.timerExpired i else s
  | _ => s

/-! ## Reports of actions at a socket (R13, R15, R17, R18) -/

/-- Place done at an EMPTY socket (R13). -/
def State.placedAtSocket (s : State) (i : Site) (u : Handle) : State :=
  let s := s.setSocket i { s.socket i with unit := some u }
  let s := (s.send (.contact i)).enterTimed i .seated .contact
  s.unbind i

/-- The bound head works a SWAP at the site. -/
def State.boundSwap (s : State) (i : Site) : Bool :=
  match (s.socket i).bound with
  | none => false
  | some h => ((s.head h).job.map (·.kind)) == some .swap

/-- Pick done at an UNLOAD_READY socket (R15): a SWAP stays bound. -/
def State.pickedAtSocket (s : State) (i : Site) : State :=
  let s := s.setSocket i { s.socket i with unit := none }
  let s := s.enterTimed i .recovering .recovery
  if s.boundSwap i then s else s.unbind i

/-- A socket goes to JAMMED and is unbound; the SOCKET_JAM notice, with a serial after a failed pick, and SITE (R17, R18). -/
def State.jam (s : State) (i : Site) (h : HeadId) (k : Nozzle) (serial : Option Word) : State :=
  let before := s.usable i
  let s := (s.enterStopped i .jammed).unbind i
  let n : Notice := { kind := .socketJam, site := some i, head := some h, nozzle := some k, serial := serial }
  ((s.raise n).setFlag .site).reportUnusable i before

/-! ## Site edits of a RUN from HELD (R22 to R27) -/

/-- Lockout (R23). -/
def State.editLockout (s : State) (i : Site) : State :=
  let k := s.socket i
  if (s.siteCfg i).lockout && !k.latch then
    match k.state with
    | .disabled | .retired | .empty | .locked =>
      s.setSocket i { k with latch := true, state := .locked, stop := .none }
    | .recovering | .seated | .testing | .releasing | .unloadReady | .jammed =>
      s.setSocket i { k with latch := true, stop := .lock }
  else s

/-- REINSTATE (R25). -/
def State.editReinstate (s : State) (i : Site) (flag : Bool) : State :=
  let k := s.socket i
  if flag && k.state == .retired && !k.latch then s.setSocket i { k with bad := 0, state := .empty } else s

/-- JAM_CLEAR (R26). -/
def State.editJamClear (s : State) (i : Site) (flag : Bool) : State :=
  if flag && (s.socket i).state == .jammed then
    let s := match (s.socket i).unit with
      | none => s
      | some u => s.declareLost u .manualClear
    (s.setSocket i { s.socket i with unit := none }).enterTimed i .recovering .recovery
  else s

/-- Enable (R24). -/
def State.editEnable (s : State) (i : Site) : State :=
  let k := s.socket i
  if k.latch then s
  else
    match k.state, (s.siteCfg i).enable with
    | .disabled, true => s.setSocket i { k with state := .empty }
    | .empty, false => s.setSocket i { k with state := .disabled }
    | .disabled, false | .empty, true | .retired, _ | .locked, _ => s
    | _, false => if k.stop = .none then s.setSocket i { k with stop := .disable } else s
    | _, true => if k.stop = .disable then s.setSocket i { k with stop := .none } else s

/-- The edits of one site in the order of R22, then R19; the level, profile index and threshold come with the shadow record
(R27). -/
def State.editSite (s : State) (i : Site) (reinstate jamClear : Bool) : State :=
  ((((s.editLockout i).editReinstate i reinstate).editJamClear i jamClear).editEnable i).updateRequests i

end Sys2Proof.Machine
end

