-- ==== Sys2Proof/Machine/Trays.lean ====
section
/-! DEFINITION. The tray frame unit (chapter 7): validation and activation, input supply, output allocation, pocket results,
reservations, completion and SPENT. -/

namespace Sys2Proof.Machine

/-- Reason codes (section 8.3). -/
inductive FrameReason where
  | none | complete | closed | notArmed | badStation | badGeometry | stationBusy | unboundStation | emptyTray | stale
  deriving DecidableEq, Repr

/-- The code of a reason (section 8.3). -/
def FrameReason.code : FrameReason → Nat
  | .none => 0
  | .complete => 1
  | .closed => 2
  | .notArmed => 3
  | .badStation => 4
  | .badGeometry => 5
  | .stationBusy => 6
  | .unboundStation => 7
  | .emptyTray => 8
  | .stale => 9

/-! ## The frame in memory (section 8.3) -/

/-- The offset of pocket result i of a frame. -/
def resultOffset (f : FrameId) (i : Nat) : Nat := Config.frameBase f + 0x240 + 24 * i

/-- The offset of entry i of a frame's outcome time list, or of its serial list. -/
def listOffset (f : FrameId) (i : Nat) : Nat := Config.frameBase f + 0x40 + 4 * i

/-- The frame's state word written. -/
def State.writeFrameState (s : State) (f : FrameId) (st : FrameState) : State :=
  s.poke (Config.frameBase f) (BitVec.ofNat 32 st.code)

/-- The word at 0x00C: reason code and pockets done count, its other two bytes zero. -/
def State.writeReason (s : State) (f : FrameId) (r : FrameReason) (done : Nat) : State :=
  s.poke (Config.frameBase f + 0x0C) (packBytes r.code done 0 0)

/-- The occupancy map: pocket i is bit i. -/
def readOccupancy (m : List Host.Cell) (base : Nat) : BitVec 128 :=
  readWord m (base + 0x2C) ++ readWord m (base + 0x28) ++ readWord m (base + 0x24) ++ readWord m (base + 0x20)

/-- The copy of the host fields, the station given (R130). The serial list is copied, as far as the tray's pockets go, for
an EXPLICIT input frame. -/
def readFrameCopy (m : List Host.Cell) (f : FrameId) (st : Station) : FrameCopy :=
  let base := Config.frameBase f
  let rows := (readByte m (base + 5)).toNat
  let columns := (readByte m (base + 6)).toNat
  let explicit := readByte m (base + 7) == 1#8
  let isInput := match st with
    | .input _ => true
    | _ => false
  { station := st, tray := readHalf m (base + 8), rows := rows, columns := columns, explicit := explicit,
    baseSerial := readWord m (base + 0x10), occupancy := readOccupancy m base,
    serials := if explicit && isInput then (List.range (rows * columns)).map fun i => readWord m (listOffset f i) else [] }

/-- The number of pockets of a copied tray. -/
def FrameCopy.size (c : FrameCopy) : Nat := c.rows * c.columns

/-- The occupancy flag of a pocket of a copied tray. -/
def FrameCopy.flag (c : FrameCopy) (i : Nat) : Bool := c.occupancy.getLsbD i

/-- The mark of a pocket of a frame record. -/
def FrameRecord.mark (r : FrameRecord) (i : Nat) : PocketMark := r.marks.getD i .isOpen

/-- The frame record is ACTIVE or CLOSE (R131). -/
def FrameRecord.inUse (r : FrameRecord) : Bool := r.state == .active || r.state == .close

/-- The frame record's copy names a station. -/
def FrameRecord.isAt (r : FrameRecord) (st : Station) : Bool := (r.copy.map (·.station)) == some st

/-! ## Classes and stations -/

/-- Some class lists the output station. -/
def State.isBound (s : State) (n : Fin 8) : Bool := s.cfg.classes.toList.any fun l => l.contains n

/-- The tray frame unit reports room for the class that lists the station of the frame, when one does (R143). -/
def State.reportRoom (s : State) (st : Station) : State :=
  match st with
  | .output n => if s.isBound n then s.push .selectIdle else s
  | _ => s

/-! ## SPENT (R142) -/

/-- The frame leaves the input activation list; when it was first and another becomes first, that is reported as a frame
activation (R131, R142). -/
def State.leaveInputs (s : State) (f : FrameId) : State :=
  let s' := { s with trays := { s.trays with inputs := s.trays.inputs.filter fun g => g != f } }
  match s.trays.inputs, s'.trays.inputs with
  | g :: _, _ :: _ => if g = f then s'.push .selectIdle else s'
  | _, _ => s'

/-- A frame becomes SPENT (R142). -/
def State.spend (s : State) (f : FrameId) (r : FrameReason) : State :=
  let rec_ := s.frame f
  let s := ((s.writeReason f r rec_.done).writeFrameState f .spent).setFlag .tray
  (s.leaveInputs f).setFrame f { rec_ with state := .spent, marks := [] }

/-- A mark is RESERVED for a head. -/
def PocketMark.isReserved : PocketMark → Bool
  | .reserved _ => true
  | _ => false

/-- An ACTIVE input frame is complete (R135), an ACTIVE output frame is complete (R141). -/
def FrameRecord.complete (r : FrameRecord) : Bool :=
  match r.copy with
  | none => false
  | some c =>
    match c.station with
    | .input _ => (List.range c.size).all fun i => !c.flag i || r.mark i == .done
    | _ => (List.range c.size).all fun i => c.flag i || r.mark i == .done

/-- After a change of a mark of a frame in CLOSE: the frame becomes SPENT when no pocket is RESERVED (R140). -/
def State.closedTest (s : State) (f : FrameId) : State :=
  let r := s.frame f
  if r.state = .close ∧ r.marks.any PocketMark.isReserved = false then s.spend f .closed else s

/-- After a pocket result: the completion test of an ACTIVE frame (R135, R141), that of a frame in CLOSE (R140). In HALTED a
frame already ACTIVE keeps its state (R182; log entry 25). -/
def State.completionTest (s : State) (f : FrameId) : State :=
  if (s.frame f).state = .active ∧ (s.frame f).complete = true ∧ s.isIn .halted = false then s.spend f .complete
  else s.closedTest f

/-! ## Validation and activation (R129, R130) -/

/-- The checks of R129 in order: the reason of the first that fails, or the station of the frame. -/
def State.validateFrame (s : State) (f : FrameId) : Except FrameReason Station :=
  let base := Config.frameBase f
  let rows := (readByte s.mem (base + 5)).toNat
  let columns := (readByte s.mem (base + 6)).toNat
  if s.isIn .unarmed || s.isIn .halted then .error .notArmed
  else
    match stationOfCode (readByte s.mem (base + 4)).toNat with
    | none => .error .badStation
    | some .strip => .error .badStation
    | some st =>
      let g := stationGeometry s.cfg st
      if rows < 1 || 8 < rows || columns < 1 || 16 < columns || g.maxRows < rows || g.maxColumns < columns then
        .error .badGeometry
      else if allFrames.any fun k => k != f && (s.frame k).inUse && (s.frame k).isAt st then .error .stationBusy
      else
        match st with
        | .output n => if s.isBound n then .ok st else .error .unboundStation
        | _ =>
          if (List.range (rows * columns)).any fun i => (readOccupancy s.mem base).getLsbD i then .ok st
          else .error .emptyTray

/-- A frame is REJECTED (R129). In UNARMED the tray frame unit holds no record for it (R144, R168). -/
def State.rejectFrame (s : State) (f : FrameId) (r : FrameReason) : State :=
  let s := ((s.writeReason f r 0).writeFrameState f .rejected).setFlag .tray
  if s.isIn .unarmed then s else s.setFrame f { FrameRecord.reset with state := .rejected }

/-- Steps 1 to 4 of an activation (R130): copy, marks, cleared results, ACTIVE. An output frame's time list is cleared with
the results (R147). -/
def State.copyFrame (s : State) (f : FrameId) (st : Station) : State :=
  let c := readFrameCopy s.mem f st
  let m := clearRange s.mem (resultOffset f 0) (128 * 24)
  let m := match st with
    | .output _ => clearRange m (listOffset f 0) (128 * 4)
    | _ => m
  let s := s.setFrame f { state := .active, copy := some c, marks := List.replicate c.size .isOpen, done := 0 }
  ((s.setMem m).writeReason f .none 0).writeFrameState f .active

/-- A frame is activated (R130): an output frame with no usable pocket is SPENT at once; an input frame joins the activation
list; the activation, and room for an output frame, are reported. -/
def State.activateFrame (s : State) (f : FrameId) (st : Station) : State :=
  let s := s.copyFrame f st
  match st with
  | .input _ => { s with trays := { s.trays with inputs := s.trays.inputs ++ [f] } }.push .selectIdle
  | _ =>
    if (s.frame f).complete then s.spend f .complete
    else (s.push .selectIdle).reportRoom st

/-- A POSTED frame is validated, and then activated or REJECTED (R129). -/
def State.takePosted (s : State) (f : FrameId) : State :=
  match s.validateFrame f with
  | .error r => s.rejectFrame f r
  | .ok st => s.activateFrame f st

/-! ## Supply, allocation and reservation -/

/-- The pocket the tray frame unit offers on the input side (R132). -/
def State.offered (s : State) : Option (FrameId × Nat) :=
  match s.trays.inputs with
  | [] => none
  | f :: _ =>
    let r := s.frame f
    match r.state, r.copy with
    | .active, some c => ((List.range c.size).find? fun i => c.flag i && r.mark i == .isOpen).map fun i => (f, i)
    | _, _ => none

/-- A usable pocket of an output frame (R136). -/
def FrameRecord.usablePocket (r : FrameRecord) : Option Nat :=
  match r.state, r.copy with
  | .active, some c => (List.range c.size).find? fun i => !c.flag i && r.mark i == .isOpen
  | _, _ => none

/-- The allocation from one output station: the lowest usable pocket of an ACTIVE frame there (R136). -/
def State.allocateAt (s : State) (n : Fin 8) : Option (FrameId × Nat) :=
  allFrames.findSome? fun f =>
    if (s.frame f).isAt (.output n) then (s.frame f).usablePocket.map fun i => (f, i) else none

/-- The allocation for a class (R136). -/
def State.allocate (s : State) (c : Fin 8) : Option (FrameId × Nat) := s.cfg.classes[c].findSome? s.allocateAt

/-- A pocket's mark changed. -/
def State.setMark (s : State) (f : FrameId) (i : Nat) (m : PocketMark) : State :=
  s.setFrame f { s.frame f with marks := (s.frame f).marks.set i m }

/-- A pocket reservation of a head released without a pocket result: the mark returns to OPEN; a frame in CLOSE is tested, an
ACTIVE output frame gives room (R132, R137, R140, R143). -/
def State.releasePocket (s : State) (f : FrameId) (i : Nat) (h : HeadId) : State :=
  if (s.frame f).mark i = .reserved h then
    let s := s.setMark f i .isOpen
    match (s.frame f).state, (s.frame f).copy with
    | .close, _ => s.closedTest f
    | .active, some c => s.reportRoom c.station
    | _, _ => s
  else s

/-! ## Pocket results (R133, R134, R138, R139, R147) -/

/-- A pocket result written as six words, the mark set DONE, the pockets done count increased, and the completion test. A
frame holds results for the pockets 0 to 127. -/
def State.writeResult (s : State) (f : FrameId) (i : Nat) (words : List Word) : State :=
  if i < 128 then
    let s := s.setMem (writeWords s.mem (resultOffset f i) (words.take 6))
    let r := s.frame f
    let s := s.setFrame f { r with marks := r.marks.set i .done, done := r.done + 1 }
    (s.writeReason f .none (r.done + 1)).completionTest f
  else s

/-- A result that holds only its kind, and a serial for PICKED (R147). -/
def plainResult (kind : Nat) (serial : Word) : List Word := [BitVec.ofNat 32 kind, serial, 0#32, 0#32, 0#32, 0#32]

/-- An attempt word (R147); the duration is cut to 16,777,215 ms. -/
def attemptWord (t : Attempt) : Word := BitVec.ofNat 32 (min t.duration 16777215 + t.bin.val * 0x1000000)

/-- The attempt word of a place, all ones when unused (R147). -/
def attemptWordAt (l : List Attempt) (k : Nat) : Word := (l[k]?.map attemptWord).getD 0xFFFFFFFF#32

/-- The site bits of an attempt place, all ones when unused (R147). -/
def attemptSiteAt (l : List Attempt) (k : Nat) : Nat := (l[k]?.map fun t => t.site.val).getD 31

/-- The final bin: that of the last attempt, or 0xFF (R49, R147). -/
def finalBin (l : List Attempt) : Nat := (l.getLast?.map fun t => t.bin.val).getD 0xFF

/-- The reason flags in their bit order (section 8.3). -/
def reasonBits (r : Reasons) : Nat :=
  r.stripFull.toNat + r.noSite.toNat * 2 + r.untested.toNat * 4 + r.timeoutSeen.toNat * 8 + r.dropSeen.toNat * 16

/-- A FILLED result: the outcome entry of a unit (R49, R138, R147). DESIGN CHOICE (log entry 24): the bits section 8.3 leaves
unnamed (byte 0 bits 6 and 7, byte 1 bit 7, bit 15 of the sites field, bits 30 and 31 of a used attempt word) are written 0,
where the spec gives them no value. -/
def filledResult (u : UnitRecord) : List Word :=
  [ packBytes (3 + u.disposition.fallback.val * 8) (reasonBits u.reasons + u.attempts.length % 4 * 32)
      (u.pocket % 128 + u.station.val * 128) (finalBin u.attempts),
    u.serial,
    BitVec.ofNat 32 (u.tray.toNat + (attemptSiteAt u.attempts 0 + attemptSiteAt u.attempts 1 * 32
      + attemptSiteAt u.attempts 2 * 1024) * 0x10000),
    attemptWordAt u.attempts 0, attemptWordAt u.attempts 1, attemptWordAt u.attempts 2 ]

/-- The serial of an input pocket (R133). -/
def FrameCopy.serialAt (c : FrameCopy) (i : Nat) : Word :=
  if c.explicit then c.serials.getD i 0#32 else c.baseSerial + BitVec.ofNat 32 i

/-- The outcome entry of a unit written into an output pocket: the time of the report, then the result (R138, R147). -/
def State.writeOutcome (s : State) (f : FrameId) (i : Nat) (u : UnitRecord) : State :=
  if i < 128 then (s.poke (listOffset f i) (BitVec.ofNat 32 s.stamp)).writeResult f i (filledResult u) else s

end Sys2Proof.Machine
end

