-- ==== Sys2Proof/Machine/Rail.lean ====
section
/-! DEFINITION. Dissolution of a job (R74), and the rail arbiter (chapter 4): the test of two reservations, grant, submission,
re-examination, YIELD and the mutual wait. -/

namespace Sys2Proof.Machine

/-! ## Dissolution (R74) -/

/-- What a dropped leg held is released: a claim, a strip pocket reservation, a pocket reservation (R39, R43, R74, R137). -/
def State.releaseLeg (s : State) (h : HeadId) (l : Leg) : State :=
  match l.location, l.kind with
  | .strip p, .pick => s.setClaim p none
  | .strip p, _ =>
    if (s.stripPocket p).reservation = some h then s.setStrip p { s.stripPocket p with reservation := none } else s
  | .input _ i, _ | .output _ i, _ =>
    match l.frame with
    | some f => s.releasePocket f i h
    | none => s
  | .socket _, _ | .clearance _, _ => s

/-- The bound request of a job goes back, when its site is still bound to the head (R20, R74). -/
def State.returnRequest (s : State) (h : HeadId) (j : Job) : State :=
  match j.site with
  | none => s
  | some i => if (s.socket i).bound = some h then s.unbindReturn i j.raised else s

/-- A head's job is dissolved (R74): the legs in `dropped` release what they hold, the waiting leg is withdrawn, the bound
request goes back, the job record is dropped, and its units are checked again. `kept` are legs in flight at a halt. The
head's next state is the caller's. -/
def State.dissolve (s : State) (h : HeadId) (dropped kept : List Leg) : State :=
  let s := dropped.foldl (fun s l => s.releaseLeg h l) s
  let s := s.setWaiting h none
  let s := match (s.head h).job with
    | none => s
    | some j => s.returnRequest h j
  (s.setHead h { s.head h with job := none, legs := kept }).reroute

/-! ## Reservations and grants -/

/-- The swept interval of a travel (R82). -/
def sweep (a b : Nat) : Interval := { lo := min a b, hi := max a b }

/-- The test of R79 for an interval of a head against the other head's reservation. -/
def State.compatible (s : State) (h : HeadId) (iv : Interval) : Bool :=
  match s.rail.reserved.get h.other with
  | none => true
  | some o =>
    match h with
    | .a => iv.hi + s.deck.separation ≤ o.lo
    | .b => o.hi + s.deck.separation ≤ iv.lo

/-- The head's job is a YIELD job. -/
def State.isYielding (s : State) (h : HeadId) : Bool := ((s.head h).job.map (·.kind)) == some .yield

/-- The grant of a leg in the order of R83. -/
def State.grantLeg (s : State) (h : HeadId) (x y : Nat) (iv : Interval) : State :=
  let s := (s.setReserved h (some iv)).setWaiting h none
  let s := s.setHeadState h (if s.isYielding h then .yielding else .moving)
  s.sendTravel h x y

/-- The re-examination of a waiting leg after a change of the other head's reservation (R85). At a grant and at an arrival
the other head is MOVING or YIELDING, so a leg refused again simply waits (R87). -/
def State.regrant (s : State) (h : HeadId) : State :=
  match s.rail.waiting.get h with
  | none => s
  | some w => if s.working && s.compatible h w.swept then s.grantLeg h w.x w.y w.swept else s

/-- A grant, and the re-examination it causes for the other head (R83, R85). -/
def State.grant (s : State) (h : HeadId) (x y : Nat) (iv : Interval) : State :=
  (s.grantLeg h x y iv).regrant h.other

/-- The job level a waiting leg carries (R56, R82). -/
def State.jobLevel (s : State) (h : HeadId) : Nat := ((s.head h).job.map (·.level)).getD 0

/-- A leg of a head submitted: its swept interval from where the head stands, and the test of R79 (R82). True when it is
granted at once; otherwise it has become the waiting leg. -/
def State.examine (s : State) (h : HeadId) (l : Leg) : State × Bool :=
  let iv := sweep (s.head h).x l.x
  if s.working && s.compatible h iv then (s.grant h l.x l.y iv, true)
  else (s.setWaiting h (some { x := l.x, y := l.y, swept := iv, level := s.jobLevel h }), false)

/-- The clearance point of a blocking head for a waiting leg's swept interval (R88). -/
def State.clearance (s : State) (blocker : HeadId) (iv : Interval) : Nat :=
  match blocker with
  | .a => min (iv.lo - s.deck.separation) (s.cfg.heads.get .a).windowHigh
  | .b => max (iv.hi + s.deck.separation) (s.cfg.heads.get .b).windowLow

/-- The record of a YIELD job (R89). -/
def yieldJob : Job :=
  { kind := .yield, site := none, level := 0, raised := 0, pickNozzle := none, placeNozzle := none, taken := [],
    legsDone := 0 }

/-- A YIELD job given to a blocking head, for the other head's waiting leg (R88, R89). Its leg is submitted at once. -/
def State.giveYield (s : State) (blocker : HeadId) : State :=
  match s.rail.waiting.get blocker.other with
  | none => s
  | some w =>
    let x := s.clearance blocker w.swept
    let hd := s.head blocker
    let l : Leg :=
      { kind := .travel, nozzle := none, location := .clearance x, x := x, y := hd.y, unit := none, frame := none }
    let s := s.setHead blocker { hd with state := .bound, job := some yieldJob, legs := [l] }
    (s.examine blocker l).1

/-- A mutual wait resolved (R90, R91): the head of the lower job level, or B on equal levels, is dissolved and yields. -/
def State.mutualWait (s : State) : State :=
  let y : HeadId := if s.jobLevel .a < s.jobLevel .b then .a else .b
  (s.dissolve y (s.head y).legs []).giveYield y

/-- The arbiter acts on the head that blocks a refused leg of `h`, by that head's state (R87). -/
def State.actOnBlocker (s : State) (h : HeadId) : State :=
  match (s.head h.other).state with
  | .idle | .binWait => s.giveYield h.other
  | .bound | .railWait => if (s.rail.waiting.get h.other).isSome then s.mutualWait else s
  | .moving | .yielding | .acting | .socketWait | .stopped => s

/-- The first of a head's legs is submitted to the arbiter; the head goes to the waiting state given, or, when the leg is
granted, on to its travel (R64, R82, R87). -/
def State.submit (s : State) (h : HeadId) (st : HeadState) : State :=
  match (s.head h).legs with
  | [] => s
  | l :: _ =>
    let (s, granted) := (s.setHeadState h st).examine h l
    if granted then s else s.actOnBlocker h

/-- A head has settled in IDLE or BIN_WAIT: the other head's waiting leg is re-examined (R85). -/
def State.settledHead (s : State) (h : HeadId) : State :=
  match s.rail.waiting.get h.other with
  | none => s
  | some w =>
    if s.working && s.compatible h.other w.swept then s.grant h.other w.x w.y w.swept else s.actOnBlocker h.other

end Sys2Proof.Machine
end

