-- ==== Sys2Proof/Machine/Planner.lean ====
section
/-! DEFINITION. The service planner's choices (sections 3.2 to 3.4): nozzle choice, plans for requests, FEED and SORT legs,
the supply marker, job selection, both heads and one request, and preemption. -/

namespace Sys2Proof.Machine

/-! ## Nozzles and units of a head -/

/-- The lowest-numbered EMPTY nozzle that fits a position, with its target (R57). -/
def State.pickNozzle (s : State) (h : HeadId) (p : Point) : Option (Nozzle × Point) :=
  allNozzles.findSome? fun k =>
    if (s.slot h k).isNone then (fitTarget s.cfg h k p).map fun t => (k, t) else none

/-- A nozzle's unit with its record. -/
def State.heldUnit (s : State) (h : HeadId) (k : Nozzle) : Option (Handle × UnitRecord) :=
  (s.slot h k).bind fun u => (s.unit u).map fun r => (u, r)

/-- A candidate for a place leg. -/
structure PlaceChoice where
  nozzle : Nozzle
  target : Point
  unit : Handle
  order : Nat
  deriving DecidableEq, Repr

/-- A nozzle's unit, when it is placeable at the site and the nozzle fits the socket. -/
def State.placeCandidate (s : State) (h : HeadId) (i : Site) (k : Nozzle) : Option PlaceChoice :=
  match s.heldUnit h k with
  | none => none
  | some (u, r) =>
    if r.placeableAt i then
      (fitTarget s.cfg h k (socketPosition s.cfg i)).map fun t => ⟨k, t, u, r.pickOrder.toNat⟩
    else none

/-- The nozzle with the oldest placeable unit that fits the socket (R37, R57). -/
def State.placeChoice (s : State) (h : HeadId) (i : Site) : Option PlaceChoice :=
  (allNozzles.filterMap (s.placeCandidate h i)).foldl
    (fun best c => match best with
      | none => some c
      | some b => if c.order < b.order then some c else some b)
    none

/-- The head holds a unit placeable at the site, whatever its nozzle fits (R62). -/
def State.holdsPlaceable (s : State) (h : HeadId) (i : Site) : Bool :=
  allNozzles.any fun k => match s.heldUnit h k with
    | none => false
    | some (_, r) => r.placeableAt i

/-- The number of EMPTY nozzles of a head. -/
def State.emptyCount (s : State) (h : HeadId) : Nat := allNozzles.countP fun k => (s.slot h k).isNone

/-- The head holds a unit whose state is in a set. -/
def State.holdsState (s : State) (h : HeadId) (p : UnitState → Bool) : Bool :=
  allNozzles.any fun k => match s.heldUnit h k with
    | none => false
    | some (_, r) => p r.state

/-! ## Plans for requests (R60 to R62, R68) -/

/-- What a head would do for a request. -/
structure Plan where
  kind : JobKind
  level : Nat
  pick : Option (Nozzle × Point)
  place : Option PlaceChoice
  deriving DecidableEq, Repr

/-- The target of the first leg a plan has (R70): the pick target of a SWAP or UNLOAD, the place target of a LOAD. -/
def Plan.firstTarget (p : Plan) : Point :=
  match p.pick, p.place with
  | some (_, t), _ => t
  | none, some c => c.target
  | none, none => ⟨0, 0⟩

/-- The head's plan for a request at a site, when it is eligible (R68); the level is that of R68, for the UNLOAD of a latched
site too (DESIGN CHOICE, log entry 21). -/
def State.planFor (s : State) (h : HeadId) (i : Site) (r : Request) : Option Plan :=
  let level := (s.siteCfg i).level
  let pick := s.pickNozzle h (socketPosition s.cfg i)
  let place := s.placeChoice h i
  match r.kind, pick, place with
  | .load, _, some c => some { kind := .load, level := level, pick := none, place := some c }
  | .load, _, none => none
  | .swap, some k, some c => some { kind := .swap, level := level, pick := some k, place := some c }
  | .swap, some k, none =>
    if s.isIn .draining && !s.holdsPlaceable h i then
      some { kind := .unload, level := level, pick := some k, place := none }
    else none
  | .swap, none, _ => none
  | .unload, some k, _ => some { kind := .unload, level := max level 1, pick := some k, place := none }
  | .unload, none, _ => none

/-- A pending request a head can serve. -/
structure Offer where
  site : Site
  raised : Nat
  plan : Plan
  deriving DecidableEq, Repr

/-- The head's offer for the pending request of a site. -/
def State.offerFor (s : State) (h : HeadId) (i : Site) : Option Offer :=
  match s.request i with
  | none => none
  | some r => (s.planFor h i r).map fun p => { site := i, raised := r.raised, plan := p }

/-- The first offer is strictly better: a higher level, or the same level and an earlier raise time (R68). -/
def Offer.better (a b : Offer) : Bool :=
  b.plan.level < a.plan.level || (a.plan.level == b.plan.level && a.raised < b.raised)

/-- The best request the head is eligible for; the lowest site among equals (R68). -/
def State.bestOffer (s : State) (h : HeadId) : Option Offer :=
  (allSites.filterMap (s.offerFor h)).foldl
    (fun best o => match best with
      | none => some o
      | some b => if o.better b then some o else some b)
    none

/-- The legs of a plan: a PICK, a PLACE, or one after the other (R60 to R62). -/
def Plan.legs (p : Plan) (i : Site) : List Leg :=
  let pick := match p.pick with
    | none => []
    | some (k, t) =>
      [{ kind := LegKind.pick, nozzle := some k, location := .socket i, x := t.x, y := t.y, unit := none, frame := none }]
  let place := match p.place with
    | none => []
    | some c =>
      [{ kind := LegKind.place, nozzle := some c.nozzle, location := .socket i, x := c.target.x, y := c.target.y,
         unit := some c.unit, frame := none }]
  pick ++ place

/-- A job is bound to a head with its legs; the bin latch is cleared (R64, R69). -/
def State.bindJob (s : State) (h : HeadId) (j : Job) (legs : List Leg) : State :=
  s.setHead h { s.head h with job := some j, legs := legs, binLatch := false }

/-- The request of an offer is bound to the head and its first leg is submitted (R20, R64, R68). -/
def State.bindOffer (s : State) (h : HeadId) (o : Offer) : State :=
  let s := s.setRequest o.site none
  let s := s.setSocket o.site { s.socket o.site with bound := some h }
  let j : Job :=
    { kind := o.plan.kind, site := some o.site, level := o.plan.level, raised := o.raised,
      pickNozzle := o.plan.pick.map Prod.fst, placeNozzle := o.plan.place.map (·.nozzle), taken := [], legsDone := 0 }
  (s.bindJob h j (o.plan.legs o.site)).submit h .bound

/-! ## FEED (R58, R59) -/

/-- A job record of level 0 with no site: FEED and SORT (R56). -/
def plainJob (kind : JobKind) (taken : List Handle) : Job :=
  { kind := kind, site := none, level := 0, raised := 0, pickNozzle := none, placeNozzle := none, taken := taken,
    legsDone := 0 }

/-- The supply marker as it would be evaluated (R59). -/
def State.supplyNow (s : State) : Bool :=
  s.units.retest.any (fun e => e.claim.isNone) || (s.isIn .run && s.offered.isSome)

/-- The supply marker set; a change to NONE in RUN sets SUPPLY (R59). -/
def State.evaluateSupply (s : State) : State :=
  let now := s.supplyNow
  let s' := { s with planner := { s.planner with supply := now } }
  if s.planner.supply && !now && s.isIn .run then s'.setFlag .supply else s'

/-- The first unclaimed retest list entry that some EMPTY nozzle of the head fits (R43, R58). -/
def State.feedEntry (s : State) (h : HeadId) : Option (RetestEntry × Nozzle × Point) :=
  s.units.retest.findSome? fun e =>
    if e.claim.isNone then (s.pickNozzle h (stripPosition s.cfg e.pocket)).map fun kt => (e, kt) else none

/-- The input pocket offered, when some EMPTY nozzle of the head fits it; RUN only (R58). -/
def State.feedInput (s : State) (h : HeadId) : Option (FrameId × Nat × Fin 2 × Nozzle × Point) :=
  if s.isIn .run then
    match s.offered with
    | none => none
    | some (f, i) =>
      match (s.frame f).copy with
      | some c =>
        match c.station with
        | .input n => (s.pickNozzle h (framePosition s.cfg c i)).map fun kt => (f, i, n, kt)
        | _ => none
      | none => none
  else none

/-- The next FEED leg: the retest list first, then the first input frame; the claim or the reservation is made (R58). -/
def State.feedLeg (s : State) (h : HeadId) : Option (State × Leg) :=
  match s.feedEntry h with
  | some (e, k, t) =>
    some (s.setClaim e.pocket (some h),
      { kind := .pick, nozzle := some k, location := .strip e.pocket, x := t.x, y := t.y, unit := none, frame := none })
  | none =>
    match s.feedInput h with
    | some (f, i, n, k, t) =>
      some (s.setMark f i (.reserved h),
        { kind := .pick, nozzle := some k, location := .input n i, x := t.x, y := t.y, unit := none, frame := some f })
    | none => none

/-! ## SORT (R38, R39, R63, R137) -/

/-- A destination for a TESTED unit (R38). -/
inductive Destination where
  | strip (p : Fin 16)
  | pocket (f : FrameId) (i : Nat)
  deriving DecidableEq, Repr

/-- The destination decision of R38; it changes nothing. -/
def State.decide (s : State) (u : UnitRecord) : Option Destination :=
  match u.disposition with
  | .absent => none
  | .cls c => (s.allocate c).map fun fi => .pocket fi.1 fi.2
  | .retestWanted c =>
    match s.freeStrip, s.siteRoom u with
    | some p, true => some (.strip p)
    | _, _ => (s.allocate c).map fun fi => .pocket fi.1 fi.2

/-- The position of a destination. -/
def State.destinationPosition (s : State) : Destination → Option Point
  | .strip p => some (stripPosition s.cfg p)
  | .pocket f i => (s.frame f).copy.map fun c => framePosition s.cfg c i

/-- The target of a nozzle for a destination, when the nozzle fits it (R57). -/
def State.destinationTarget (s : State) (h : HeadId) (k : Nozzle) (d : Destination) : Option Point :=
  (s.destinationPosition d).bind (fitTarget s.cfg h k)

/-- A nozzle's TESTED unit not yet taken in the job, with its target, when it is deliverable (R63). -/
def State.deliverable (s : State) (h : HeadId) (taken : List Handle) (k : Nozzle) : Option (Handle × Point) :=
  match s.heldUnit h k with
  | none => none
  | some (u, r) =>
    if r.state = .tested ∧ taken.contains u = false then
      ((s.decide r).bind (s.destinationTarget h k)).map fun t => (u, t)
    else none

/-- The head holds a deliverable TESTED unit (R67). -/
def State.holdsDeliverable (s : State) (h : HeadId) : Bool := allNozzles.any fun k => (s.deliverable h [] k).isSome

/-- The PLACE leg to a committed destination. -/
def State.placeLeg (s : State) (k : Nozzle) (u : Handle) (t : Point) (d : Destination) : Leg :=
  let location : Location := match d with
    | .strip p => .strip p
    | .pocket f i => match (s.frame f).copy.map FrameCopy.station with
      | some (.output n) => .output n i
      | _ => .output 0 i
  let frame := match d with
    | .strip _ => none
    | .pocket f _ => some f
  { kind := .place, nozzle := some k, location := location, x := t.x, y := t.y, unit := some u, frame := frame }

/-- The commit of an output pocket for a class (R137): no leg when the allocation gives none, or gives a pocket the nozzle
does not fit, whose reservation is released at once. -/
def State.commitClass (s : State) (h : HeadId) (k : Nozzle) (u : Handle) (c : Fin 8) : State × Option Leg :=
  match s.allocate c with
  | none => (s, none)
  | some (f, i) =>
    let s := s.setMark f i (.reserved h)
    match s.destinationTarget h k (.pocket f i) with
    | some t => (s, some (s.placeLeg k u t (.pocket f i)))
    | none => (s.releasePocket f i h, none)

/-- The commit of the destination decision for a unit (R39): a strip pocket reserved, a fallback made final, or a class. -/
def State.commit (s : State) (h : HeadId) (k : Nozzle) (u : Handle) : State × Option Leg :=
  match s.unit u with
  | none => (s, none)
  | some r =>
    match r.disposition with
    | .absent => (s, none)
    | .cls c => s.commitClass h k u c
    | .retestWanted c =>
      match s.freeStrip, s.siteRoom r with
      | some p, true =>
        match s.destinationTarget h k (.strip p) with
        | some t =>
          (s.setStrip p { s.stripPocket p with reservation := some h }, some (s.placeLeg k u t (.strip p)))
        | none => (s, none)
      | p, room =>
        let r' : UnitRecord :=
          { r with
            disposition := .cls c
            reasons := { r.reasons with
              stripFull := r.reasons.stripFull || p.isNone
              noSite := r.reasons.noSite || !room } }
        (s.setUnit u (some r')).commitClass h k u c

/-- The nozzle, among those not ruled out, whose deliverable unit has the smallest leg time; the lower nozzle on a tie
(R63, R105). -/
def State.nearest (s : State) (h : HeadId) (taken : List Handle) (out : List Nozzle) : Option (Nozzle × Handle) :=
  ((allNozzles.filterMap fun k =>
      if out.contains k then none
      else (s.deliverable h taken k).map fun (u, t) => (k, u, s.headLegTime h t)).foldl
    (fun best c => match best with
      | none => some c
      | some b => if c.2.2 < b.2.2 then some c else some b)
    none).map fun (k, u, _) => (k, u)

/-- The SORT leg chosen and committed (R63); a unit whose commit makes no leg is passed over (R137). -/
def State.sortLeg (s : State) (h : HeadId) (taken : List Handle) : Nat → List Nozzle → State × Option (Handle × Leg)
  | 0, _ => (s, none)
  | n + 1, out =>
    match s.nearest h taken out with
    | none => (s, none)
    | some (k, u) =>
      match s.commit h k u with
      | (s, some l) => (s, some (u, l))
      | (s, none) => s.sortLeg h taken n (k :: out)

/-! ## Selection (R66 to R71) -/

/-- A selection has left the head in IDLE or BIN_WAIT (R85, R180). -/
def State.settle (s : State) (h : HeadId) : State := (s.settledHead h).drainTest

/-- Case 6 of R67: BIN_WAIT when the head holds a TESTED unit, otherwise IDLE. Entering BIN_WAIT with the bin latch clear
sets BIN and the latch (R69). -/
def State.restHead (s : State) (h : HeadId) : State :=
  let hd := s.head h
  if s.holdsState h (fun st => st == .tested) then
    if hd.state = .binWait then s
    else if hd.binLatch then s.setHeadState h .binWait
    else (s.setHead h { hd with state := .binWait, binLatch := true }).setFlag .bin
  else s.setHeadState h .idle

/-- A SORT job is bound with its first leg (R63, R67). No leg to make leaves the head as case 6 does. -/
def State.bindSort (s : State) (h : HeadId) : State :=
  match s.sortLeg h [] 4 [] with
  | (s, some (u, l)) => (s.bindJob h (plainJob .sort [u]) [l]).submit h .bound
  | (s, none) => (s.restHead h).settle h

/-- Cases 4 to 6 of R67. The supply marker is evaluated when case 4 is reached (R59). -/
def State.selectSupply (s : State) (h : HeadId) : State :=
  let s := s.evaluateSupply
  match (if 2 ≤ s.emptyCount h then s.feedLeg h else none) with
  | some (s, l) => (s.bindJob h (plainJob .feed []) [l]).submit h .bound
  | none => if s.holdsDeliverable h then s.bindSort h else (s.restHead h).settle h

/-- Case 2 of R67 applies to the head. -/
def State.sortsFirst (s : State) (h : HeadId) : Bool :=
  s.holdsDeliverable h && (s.emptyCount h == 0 || !s.holdsState h (fun st => st == .fresh || st == .retest))

/-- The head is IDLE or BIN_WAIT. -/
def State.isResting (s : State) (h : HeadId) : Bool := (s.head h).state == .idle || (s.head h).state == .binWait

/-- Job selection for a head (R66, R67, R71, R76). -/
def State.select (s : State) (h : HeadId) : State :=
  if !s.isResting h then s
  else if s.isIn .holding then (s.setHeadState h .stopped).holdTest
  else if !s.working then s
  else if !s.board.queue.isEmpty then s.settle h
  else if s.sortsFirst h then s.bindSort h
  else
    match s.bestOffer h with
    | some o => s.bindOffer h o
    | none => s.selectSupply h

/-- The head taken first where the spec lets either be (R70; log entry 6), and the state with that choice used up. -/
def State.firstHead (s : State) : State × HeadId :=
  ({ s with choices := s.choices + 1 }, Config.eitherHead s.choices)

/-- Selection for every head that is IDLE or BIN_WAIT (R66, R70). -/
def State.selectResting (s : State) : State :=
  match s.isResting .a, s.isResting .b with
  | true, true =>
    let (s, h) := s.firstHead
    (s.select h).select h.other
  | true, false => s.select .a
  | false, true => s.select .b
  | false, false => s

/-- Selection may bind a job: RUN or DRAINING, and the holding queue empty (R67, R71). -/
def State.mayBind (s : State) : Bool := s.working && s.board.queue.isEmpty

/-- The offer of a head for the site's request, when that is the best request for the head and the head does not sort
first: the head's part of the first case of R70. -/
def State.wouldTake (s : State) (h : HeadId) (i : Site) : Option Offer :=
  if s.isResting h && !s.sortsFirst h then
    match s.bestOffer h with
    | some o => if o.site = i then some o else none
    | none => none
  else none

/-- The head of the smaller estimated first-leg time; A on equal times (R70, R73). -/
def State.quicker (s : State) (pa pb : Plan) : HeadId :=
  if s.headLegTime .b pb.firstTarget < s.headLegTime .a pa.firstTarget then .b else .a

/-- The selections a request entering the pending set starts (R66, R70). -/
def State.selectEntered (s : State) (i : Site) : State :=
  match s.mayBind, s.wouldTake .a i, s.wouldTake .b i with
  | true, some oa, some ob =>
    let h := s.quicker oa.plan ob.plan
    (s.select h).select h.other
  | _, _, _ => s.selectResting

/-! ## Preemption (R72, R73) -/

/-- The offer with which a head may be preempted for the site's request (R72). -/
def State.preemptOffer (s : State) (h : HeadId) (i : Site) : Option Offer :=
  match (s.head h).state, (s.head h).job, s.offerFor h i with
  | .bound, some j, some o =>
    match j.kind with
    | .load | .swap | .unload => if j.level < o.plan.level then some o else none
    | .feed | .sort | .yield => none
  | _, _, _ => none

/-- A head is rebound to a better request: its old legs are withdrawn and its old request returned, the new one bound
(R20, R72). -/
def State.preempt (s : State) (h : HeadId) (o : Offer) : State :=
  let s := (s.head h).legs.foldl (fun s l => s.releaseLeg h l) s
  let s := s.setWaiting h none
  let s := match (s.head h).job with
    | none => s
    | some j => s.returnRequest h j
  (s.bindOffer h o).reroute

/-- The job-level comparison of two heads that could both be preempted (R73). -/
def State.preemptChoice (s : State) (oa ob : Offer) : HeadId :=
  if s.jobLevel .a < s.jobLevel .b then .a
  else if s.jobLevel .b < s.jobLevel .a then .b
  else s.quicker oa.plan ob.plan

/-- Preemption for a request still pending after the selections (R72, R73). -/
def State.considerPreemption (s : State) (i : Site) : State :=
  if s.deck.preemption && s.mayBind then
    match s.preemptOffer .a i, s.preemptOffer .b i with
    | none, none => s
    | some oa, none => s.preempt .a oa
    | none, some ob => s.preempt .b ob
    | some oa, some ob =>
      match s.preemptChoice oa ob with
      | .a => s.preempt .a oa
      | .b => s.preempt .b ob
  else s

/-- A request of a site enters the pending set: selections first, preemption after (R73). -/
def State.requestEntered (s : State) (i : Site) : State :=
  match s.request i with
  | none => s
  | some _ => (s.selectEntered i).considerPreemption i

end Sys2Proof.Machine
end

