-- ==== Sys2Proof/Machine/Heads.lean ====
section
/-! DEFINITION. A job's course on a head (R64, R65, R113 to R118): arrival, the reports of an action to their owners, the end
of a leg, and the end or dissolution of the job; and the change of a device state that stops the heads: hold and halt. -/

namespace Sys2Proof.Machine

/-! ## The end of a job -/

/-- A head whose job is over: IDLE and selection in RUN and DRAINING; STOPPED otherwise, which may complete a hold (R64, R74,
R75, R177). -/
def State.restAfterJob (s : State) (h : HeadId) : State :=
  if s.working then (s.setHeadState h .idle).select h else (s.setHeadState h .stopped).holdTest

/-- The job ends (R64): the record is dropped and its units are checked again (R46, R47, R60). DESIGN CHOICE (log entry 27): the
check of the unit of a failed place is made before the selection that the job's end starts; R46, R47, R60 and R64 do not order
the two. -/
def State.endJob (s : State) (h : HeadId) : State :=
  ((s.setHead h { s.head h with job := none, legs := [] }).reroute).restAfterJob h

/-- The job is dissolved at a leg end, the legs given being dropped (R74, R75). -/
def State.dissolveAtEnd (s : State) (h : HeadId) (dropped : List Leg) : State := (s.dissolve h dropped []).restAfterJob h

/-- The next leg of the bound job is submitted (R64). -/
def State.nextLeg (s : State) (h : HeadId) (l : Leg) : State :=
  (s.setHead h { s.head h with legs := [l] }).submit h .railWait

/-- A FEED job after a pick report: the stop test, then the next leg (R59). -/
def State.feedNext (s : State) (h : HeadId) (legsDone : Nat) : State :=
  if s.emptyCount h ≤ 1 ∨ 4 ≤ legsDone then s.endJob h
  else
    let s := s.evaluateSupply
    match s.feedLeg h with
    | some (s, l) => s.nextLeg h l
    | none => s.endJob h

/-- A SORT job after a place report: the next leg among the remaining units, or the end (R63). -/
def State.sortNext (s : State) (h : HeadId) (j : Job) : State :=
  match s.sortLeg h j.taken 4 [] with
  | (s, some (u, l)) =>
    (s.setHead h { s.head h with job := some { j with taken := j.taken ++ [u] } }).nextLeg h l
  | (s, none) => s.endJob h

/-- The action of a head's leg has been reported to its owners; the planner decides the job's next step (R59 to R64). A
report taken after the job was dissolved at a halt has no next step (R76). -/
def State.legEnded (s : State) (h : HeadId) (ok : Bool) : State :=
  let hd := s.head h
  match hd.job with
  | none => s
  | some j =>
    let j := { j with legsDone := j.legsDone + 1 }
    let s := s.setHead h { hd with job := some j, legs := hd.legs.tail }
    if !s.working then s.dissolveAtEnd h hd.legs.tail
    else
      match j.kind with
      | .feed => s.feedNext h j.legsDone
      | .sort => s.sortNext h j
      | .swap =>
        match hd.legs.tail with
        | l :: _ => if ok then s.nextLeg h l else s.endJob h
        | [] => s.endJob h
      | .load | .unload | .yield => s.endJob h

/-! ## Reports of an action to their owners (R32, R65, R117) -/

/-- A pick done at an input pocket, in the order of R65: serial and origin, unit record, nozzle slot, pocket result (R30,
R133). A record is created only for a pick into an EMPTY nozzle (R31). A FRESH unit created in DRAINING is checked for
untested routing (R47). -/
def State.inputPicked (s : State) (h : HeadId) (k : Nozzle) (f : FrameId) (i : Nat) : State :=
  match (s.frame f).copy, s.slot h k with
  | none, _ | some _, some _ => s
  | some c, none =>
    let st : Fin 2 := match c.station with
      | .input n => n
      | _ => 0
    let serial := c.serialAt i
    let (s, u) := s.createUnit serial st c.tray i h k
    ((s.setSlot h k u).writeResult f i (plainResult 1 serial)).reroute

/-- A pick done at a strip pocket, into an EMPTY nozzle: the slot, the retest re-examined, the entry and the pocket (R31, R40,
R44). -/
def State.stripPicked (s : State) (h : HeadId) (k : Nozzle) (p : Fin 16) : State :=
  match (s.stripPocket p).content, s.slot h k with
  | none, _ | some _, some _ => s
  | some u, none =>
    let s := s.setSlot h k (some u)
    let s := s.modUnit u fun r =>
      let r := { r with place := .nozzle h k }
      if s.siteRoom r then { r with state := .retest } else r.noSite
    (s.setStrip p { s.stripPocket p with content := none, reservation := none }).dropEntry p

/-- A pick failed at a strip pocket: the unit LOST, the entry removed, the pocket blocked (R40, R45, R117). -/
def State.stripPickFailed (s : State) (p : Fin 16) : State :=
  let s := match (s.stripPocket p).content with
    | none => s
    | some u => s.declareLost u .stripPickFailed
  s.setStrip p { content := none, reservation := none, blocked := true }

/-- A pick done at a socket, into an EMPTY nozzle: the slot, the unit TESTED on the nozzle, the socket (R15, R31, R32). -/
def State.socketPicked (s : State) (h : HeadId) (k : Nozzle) (i : Site) : State :=
  if (s.socket i).state = .unloadReady ∧ s.slot h k = none then
    let s := match (s.socket i).unit with
      | none => s
      | some u =>
        (s.setSlot h k (some u)).modUnit u fun r => { r with state := .tested, place := .nozzle h k }
    s.pickedAtSocket i
  else s

/-- The nozzle holds the unit, and the unit's record passes a test: the unit and state a report of a place names (R31, R32). -/
def State.holdsUnit (s : State) (h : HeadId) (k : Nozzle) (u : Handle) (p : UnitRecord → Bool) : Bool :=
  s.slot h k == some u && (s.unit u).any p

/-- A unit that a place done at a strip pocket names: TESTED, with RETEST_WANTED (R32, R39). -/
def UnitRecord.wantsStrip (r : UnitRecord) : Bool :=
  match r.state, r.disposition with
  | .tested, .retestWanted _ => true
  | _, _ => false

/-- A place done at a socket, of a unit of the nozzle that is placeable there: the slot, the unit IN_SOCKET, the socket (R13,
R32, R37). -/
def State.socketPlaced (s : State) (h : HeadId) (k : Nozzle) (i : Site) (u : Handle) : State :=
  if (s.socket i).state = .empty ∧ s.holdsUnit h k u (·.placeableAt i) = true then
    let s := (s.setSlot h k none).modUnit u fun r => { r with state := .inSocket, place := .site i }
    s.placedAtSocket i u
  else s

/-- A place done at a strip pocket that holds no unit: the slot, the unit QUEUED, the pocket, the entry appended, which is a
retest list change (R31, R32, R40, R42). -/
def State.stripPlaced (s : State) (h : HeadId) (k : Nozzle) (p : Fin 16) (u : Handle) : State :=
  if (s.stripPocket p).content = none ∧ s.holdsUnit h k u (·.wantsStrip) = true then
    let s := (s.setSlot h k none).modUnit u fun r => { r with state := .queued, place := .strip p }
    let s := s.setStrip p { s.stripPocket p with content := some u, reservation := none }
    (s.setRetest (s.units.retest ++ [{ unit := u, pocket := p, claim := none }])).push .selectIdle
  else s

/-- A place done at an output pocket of a TESTED unit of the nozzle, in the order of R65: the outcome entry, the record freed,
the slot (R32, R49, R138). -/
def State.outputPlaced (s : State) (h : HeadId) (k : Nozzle) (f : FrameId) (i : Nat) (u : Handle) : State :=
  match s.unit u with
  | none => s
  | some r =>
    if s.slot h k = some u ∧ r.state = .tested then ((s.writeOutcome f i r).freeUnit u).setSlot h k none else s

/-- The POCKET_BLOCKED notice of a failed place (R117). -/
def State.raiseBlocked (s : State) (h : HeadId) (k : Nozzle) (st : Station) (pocket : Nat) : State :=
  s.raise { kind := .pocketBlocked, head := some h, nozzle := some k, station := some st, pocket := some pocket,
            serial := s.serialOf (s.slot h k) }

/-- A done or failed report of a leg's action passed to its owners (R32, R65, R117). -/
def State.report (s : State) (h : HeadId) (l : Leg) (k : Nozzle) (ok : Bool) : State :=
  match l.location, l.kind, ok with
  | .input _ i, _, true => match l.frame with
    | some f => s.inputPicked h k f i
    | none => s
  | .input _ i, _, false => match l.frame with
    | some f => s.writeResult f i (plainResult 2 0#32)
    | none => s
  | .strip p, .pick, true => s.stripPicked h k p
  | .strip p, .pick, false => s.stripPickFailed p
  | .socket i, .pick, true => s.socketPicked h k i
  | .socket i, .pick, false =>
    if (s.socket i).state = .unloadReady then s.jam i h k (s.socketSerial i) else s
  | .socket i, _, true => match l.unit with
    | some u => s.socketPlaced h k i u
    | none => s
  | .socket i, _, false => if (s.socket i).state = .empty then s.jam i h k none else s
  | .strip p, _, true => match l.unit with
    | some u => s.stripPlaced h k p u
    | none => s
  | .strip p, _, false =>
    (s.setStrip p { s.stripPocket p with reservation := none, blocked := true }).raiseBlocked h k .strip p
  | .output _ i, _, true => match l.frame, l.unit with
    | some f, some u => s.outputPlaced h k f i u
    | _, _ => s
  | .output n i, _, false => match l.frame with
    | some f => (s.writeResult f i (plainResult 4 0#32)).raiseBlocked h k (.output n) i
    | none => s
  | .clearance _, _, _ => s

/-! ## Arrival (R113, R114, R118) -/

/-- The leg of a head after its travel has arrived (the table of R113, R114, R118). -/
def State.legArrived (s : State) (h : HeadId) : State :=
  match (s.head h).legs with
  | [] => s
  | l :: rest =>
    match l.kind, l.nozzle with
    | .pick, some k => s.startAct h k .pick
    | .place, some k =>
      if s.slot h k ≠ l.unit then s.dissolveAtEnd h (l :: rest)
      else
        match l.location with
        | .socket i =>
          if (s.socket i).state = .empty then s.startAct h k .place
          else if s.working then s.setHeadState h .socketWait
          else s.dissolveAtEnd h (l :: rest)
        | _ => s.startAct h k .place
    | _, _ => s.endJob h

/-- A matched ARRIVED outside HALTED: the reservation shrinks and the other head's waiting leg is re-examined, the position is
updated, and the leg goes on (R55, R84, R113). -/
def State.travelEnded (s : State) (h : HeadId) (x y : Nat) : State :=
  let s := (s.setReserved h (some { lo := x, hi := x })).regrant h.other
  (s.setHead h { s.head h with x := x, y := y }).holdTest.legArrived h

/-- A matched ARRIVED in HALTED: the position alone (R93, R124). -/
def State.travelEndedHalted (s : State) (h : HeadId) (x y : Nat) : State :=
  s.setHead h { s.head h with x := x, y := y, legs := [] }

/-- A matched ACT_DONE whose result is final: the report, then the planner's next step, which HALTED has not (R116, R124). -/
def State.actionEnded (s : State) (h : HeadId) (k : Nozzle) (ok : Bool) : State :=
  match (s.head h).legs with
  | [] => s
  | l :: rest =>
    let s := (s.report h l k ok).holdTest
    if s.isIn .halted then s.setHead h { s.head h with legs := rest } else s.push (.legEnd h ok)

/-! ## Hold (R75, R176, R178) -/

/-- A hold brings a head to STOPPED by the table of R75, or leaves it to finish its leg. -/
def State.holdHead (s : State) (h : HeadId) : State :=
  match (s.head h).state with
  | .idle | .binWait => (s.setHeadState h .stopped).holdTest
  | .bound | .railWait | .socketWait => (s.dissolve h (s.head h).legs []).restAfterJob h
  | .moving | .acting | .yielding | .stopped => s

/-- The device enters HOLDING; an automatic HOLD sets STATE (R176, R178). -/
def State.enterHolding (s : State) (auto : Bool) : State :=
  let s := s.setDevice .holding
  let s := if auto then s.setFlag .state else s
  ((s.holdHead .a).holdHead .b).holdTest

/-! ## Halt (R124, R181) -/

/-- The planner and the arbiter give up a head's work at a halt: the job is dissolved and the head STOPPED. A leg whose
command is outstanding keeps its reservation and stays on record until its report (R76, R137, R145). -/
def State.haltHead (s : State) (h : HeadId) : State :=
  let legs := (s.head h).legs
  let flight := !(s.link.get h).isEmpty
  let s := s.dissolve h (if flight then legs.tail else legs) (if flight then legs.take 1 else [])
  s.setHeadState h .stopped

/-- The device enters HALTED (R181). -/
def State.enterHalted (s : State) : State :=
  let s := { s with control := { s.control with state := .halted, holdAck := false } }.setFlag .state
  let s := { s.send .stopAll with link := ⟨s.link.a.stopDog, s.link.b.stopDog⟩ }
  (s.haltHead .a).haltHead .b

/-! ## CLOSE (R75, R140) -/

/-- A head's job whose next leg, not yet granted, is for a pocket of the frame is dissolved; the head is IDLE and selection
runs for it (R74, R75). -/
def State.closeHead (s : State) (f : FrameId) (h : HeadId) : State :=
  let hd := s.head h
  if (hd.state = .bound ∨ hd.state = .railWait) ∧ (hd.legs.head?.bind Leg.frame) = some f then
    ((s.dissolve h hd.legs []).setHeadState h .idle).push (.selectHead h)
  else s

/-- An accepted CLOSE of an ACTIVE frame (R140). -/
def State.closeFrame (s : State) (f : FrameId) : State :=
  if (s.frame f).state = .active then
    let s := s.setFrame f { s.frame f with state := .close }
    ((s.closeHead f .a).closeHead f .b).closedTest f
  else s

end Sys2Proof.Machine
end

