-- ==== Sys2Proof/Machine/Loader.lean ====
section
/-! DEFINITION. The configuration loader (chapter 9): the records read from exchange memory and clamped, the structural checks
in order, ARM from acceptance to completion or refusal, and RUN from HELD. -/

namespace Sys2Proof.Machine

/-! ## Reading and clamping (R160, section 8.2) -/

/-- A 32-bit field as a number. -/
def fieldWord (m : List Host.Cell) (a : Nat) : Nat := (readWord m a).toNat

/-- A byte field as a number. -/
def fieldByte (m : List Host.Cell) (a : Nat) : Nat := (readByte m a).toNat

/-- A flag byte is set when it is nonzero (section 8.1). -/
def fieldFlag (m : List Host.Cell) (a : Nat) : Bool := readByte m a != 0#8

/-- The geometry of the station with a code; the strip's largest tray is fixed (section 8.2). -/
def readGeometry (m : List Host.Cell) (code : Nat) : Geometry :=
  let a := Config.stationBase code
  { originX := fieldWord m a, originY := fieldWord m (a + 4), pitchX := fieldWord m (a + 8), pitchY := fieldWord m (a + 12)
    maxRows := if code = 10 then 2 else fieldByte m (a + 16)
    maxColumns := if code = 10 then 8 else fieldByte m (a + 17) }

/-- The deck record (R160). -/
def readDeck (m : List Host.Cell) : DeckConfig :=
  { railLength := fieldWord m 0x40, yTravel := fieldWord m 0x44, nozzlePitch := fieldWord m 0x48
    separation := fieldWord m 0x4C, pickRetries := min 3 (fieldByte m 0x50), placeRetries := min 3 (fieldByte m 0x51)
    actionLimit := clampTo 10 2000 (readHalf m 0x52).toNat, preemption := fieldFlag m 0x54
    untestedClass := Fin.ofNat 8 (fieldByte m 0x55)
    stations := Vector.ofFn fun i : Fin 11 => readGeometry m i.val
    sockets := Vector.ofFn fun i : Fin 32 =>
      { x := fieldWord m (Config.socketBase i), y := fieldWord m (Config.socketBase i + 4) } }

/-- The offset of a head record. -/
def headBase : HeadId → Nat
  | .a => 0x0240
  | .b => 0x0250

/-- A head record. -/
def readHead (m : List Host.Cell) (h : HeadId) : HeadConfig :=
  let a := headBase h
  { windowLow := fieldWord m a, windowHigh := fieldWord m (a + 4), loadedX := Fin.ofNat 4 (fieldByte m (a + 8))
    loadedY := Fin.ofNat 4 (fieldByte m (a + 9)), emptyX := Fin.ofNat 4 (fieldByte m (a + 10))
    emptyY := Fin.ofNat 4 (fieldByte m (a + 11)) }

/-- A motion profile (R100, R160). -/
def readMotion (m : List Host.Cell) (n : Nat) : MotionProfile :=
  let a := Config.motionBase n
  { velocity := clampTo 10 4000 (fieldWord m a), acceleration := clampTo 500 60000 (fieldWord m (a + 4))
    settle := min 50000 (fieldWord m (a + 8)) }

/-- A socket profile (R160). -/
def readProfile (m : List Host.Cell) (n : Nat) : SocketProfile :=
  let a := Config.socketProfileBase n
  { contact := min 10000 (fieldWord m a), release := min 10000 (fieldWord m (a + 4))
    recovery := min 10000 (fieldWord m (a + 8)), endOfTest := min 3600 (fieldWord m (a + 12)) }

/-- A site record (R160). -/
def readSite (m : List Host.Cell) (n : Nat) : SiteConfig :=
  let a := Config.siteBase n
  { enable := fieldFlag m a, level := min 7 (fieldByte m (a + 1)), profile := Fin.ofNat 4 (fieldByte m (a + 2))
    threshold := min 15 (fieldByte m (a + 3)), lockout := fieldFlag m (a + 4) }

/-- A bin map entry (R34, R160). -/
def readBin (m : List Host.Cell) (n : Nat) : BinEntry :=
  let a := Config.binBase n
  let flags := readByte m (a + 1)
  { cls := Fin.ofNat 8 (fieldByte m a), retest := flags.getLsbD 0, counts := flags.getLsbD 1, clears := flags.getLsbD 2
    limit := clampTo 1 3 (fieldByte m (a + 2)) }

/-- The station bytes of a class record, as far as its count goes. -/
def classCodes (m : List Host.Cell) (c : Nat) : List Nat :=
  (List.range (fieldByte m (Config.classBase c))).map fun j => fieldByte m (Config.classBase c + 1 + j)

/-- A class record: the output stations listed. -/
def readClass (m : List Host.Cell) (c : Nat) : List (Fin 8) := (classCodes m c).map fun code => Fin.ofNat 8 (code - 2)

/-- All records read at ARM (R159). -/
def readAll (m : List Host.Cell) : Shadow :=
  { deck := readDeck m
    heads := ⟨readHead m .a, readHead m .b⟩
    motion := Vector.ofFn fun i : Fin 4 => readMotion m i.val
    profiles := Vector.ofFn fun i : Fin 4 => readProfile m i.val
    sites := Vector.ofFn fun i : Fin 32 => readSite m i.val
    bins := Vector.ofFn fun i : Fin 64 => readBin m i.val
    classes := Vector.ofFn fun i : Fin 8 => readClass m i.val }

/-- A head record with the window of another reading. -/
def HeadConfig.withWindow (c w : HeadConfig) : HeadConfig :=
  { c with windowLow := w.windowLow, windowHigh := w.windowHigh }

/-- The records read at RUN from HELD put into the shadow copies: windows, sites, bin map and classes (R159). DESIGN CHOICE (log
entry 21): the level is re-read for a latched site too, although R23 says that such a site takes no effect from it; the level
then decides at which level the UNLOAD of a site on its way to LOCKED is selected (R19, R68). -/
def rereadInto (old : Shadow) (m : List Host.Cell) : Shadow :=
  { old with
    heads := ⟨old.heads.a.withWindow (readHead m .a), old.heads.b.withWindow (readHead m .b)⟩
    sites := Vector.ofFn fun i : Fin 32 => readSite m i.val
    bins := Vector.ofFn fun i : Fin 64 => readBin m i.val
    classes := Vector.ofFn fun i : Fin 8 => readClass m i.val }

/-! ## Structural checks (R161 to R163) -/

/-- One check: its refusal code, the offset of the field it names, and whether it passes. -/
structure Check where
  code : Nat
  offset : Nat
  pass : Bool
  deriving DecidableEq, Repr

/-- The first failing check. -/
def firstFailure (l : List Check) : Option Check := l.find? fun c => !c.pass

/-- A number is in a closed range. -/
def within (lo hi n : Nat) : Bool := lo ≤ n && n ≤ hi

/-- Step 2 of R162 for one station; STRIP takes only the two extent checks (R96). -/
def stationChecks (m : List Host.Cell) (rail travel code : Nat) : List Check :=
  let a := Config.stationBase code
  let g := readGeometry m code
  let trayChecks := if code = 10 then [] else
    [{ code := 20, offset := a + 16, pass := within 1 8 g.maxRows },
     { code := 20, offset := a + 17, pass := within 1 16 g.maxColumns }]
  trayChecks ++
    [{ code := 20, offset := a, pass := g.originX + (g.maxColumns - 1) * g.pitchX ≤ rail },
     { code := 20, offset := a + 4, pass := g.originY + (g.maxRows - 1) * g.pitchY ≤ travel }]

/-- Step 3 of R162 for one socket. -/
def socketChecks (m : List Host.Cell) (rail travel n : Nat) : List Check :=
  let a := Config.socketBase n
  [{ code := 21, offset := a, pass := fieldWord m a ≤ rail }, { code := 21, offset := a + 4, pass := fieldWord m (a + 4) ≤ travel }]

/-- Step 5 of R162 for one head. -/
def indexChecks (m : List Host.Cell) (h : HeadId) : List Check :=
  [8, 9, 10, 11].map fun j => { code := 23, offset := headBase h + j, pass := fieldByte m (headBase h + j) ≤ 3 }

/-- Step 6 of R162, the pair of windows against a rail length and a separation (R80). -/
def windowChecks (m : List Host.Cell) (rail sep : Nat) : List Check :=
  let own (h : HeadId) : List Check :=
    let w := readHead m h
    [{ code := 24, offset := headBase h + 4, pass := w.windowLow ≤ w.windowHigh },
     { code := 24, offset := headBase h + 4, pass := w.windowHigh ≤ rail }]
  own .a ++ own .b ++
    [{ code := 24, offset := headBase .b, pass := (readHead m .a).windowLow + sep ≤ (readHead m .b).windowLow },
     { code := 24, offset := headBase .b + 4, pass := (readHead m .a).windowHigh + sep ≤ (readHead m .b).windowHigh }]

/-- Steps 1 to 4 of R162. -/
def deckChecks (m : List Host.Cell) : List Check :=
  let rail := fieldWord m 0x40
  let travel := fieldWord m 0x44
  [{ code := 16, offset := 0x40, pass := within 100000 2000000 rail },
   { code := 17, offset := 0x44, pass := within 10000 600000 travel },
   { code := 18, offset := 0x48, pass := within 10000 60000 (fieldWord m 0x48) },
   { code := 19, offset := 0x4C, pass := within 20000 500000 (fieldWord m 0x4C) }]
  ++ (List.range 11).flatMap (stationChecks m rail travel)
  ++ (List.range 32).flatMap (socketChecks m rail travel)
  ++ [{ code := 22, offset := 0x55, pass := fieldByte m 0x55 ≤ 7 }]

/-- Step 1 of R163. -/
def siteChecks (m : List Host.Cell) : List Check :=
  (List.range 32).map fun n =>
    { code := 25, offset := Config.siteBase n + 2, pass := fieldByte m (Config.siteBase n + 2) ≤ 3 }

/-- Step 2 of R163. -/
def binChecks (m : List Host.Cell) : List Check :=
  (List.range 64).map fun n => { code := 26, offset := Config.binBase n, pass := fieldByte m (Config.binBase n) ≤ 7 }

/-- The checks of the j-th listed station of a class (R163): an output station, not earlier in the class, not in a lower
class. -/
def listedChecks (m : List Host.Cell) (c j : Nat) : List Check :=
  let a := Config.classBase c + 1 + j
  let code := fieldByte m a
  [{ code := 27, offset := a, pass := within 2 9 code },
   { code := 27, offset := a, pass := !((classCodes m c).take j).contains code },
   { code := 28, offset := a, pass := !(List.range c).any fun d => (classCodes m d).contains code }]

/-- Step 3 of R163 for one class. -/
def classChecks (m : List Host.Cell) (c : Nat) : List Check :=
  { code := 27, offset := Config.classBase c, pass := fieldByte m (Config.classBase c) ≤ 4 }
    :: (List.range (fieldByte m (Config.classBase c))).flatMap (listedChecks m c)

/-- The checks of site records, bin map entries and class records (R163). -/
def recordChecks (m : List Host.Cell) : List Check :=
  siteChecks m ++ binChecks m ++ (List.range 8).flatMap (classChecks m)

/-- The checks of ARM in order (R162, R163, R165). -/
def armChecks (m : List Host.Cell) : List Check :=
  deckChecks m ++ indexChecks m .a ++ indexChecks m .b ++ windowChecks m (fieldWord m 0x40) (fieldWord m 0x4C)
    ++ recordChecks m

/-- The checks of RUN from HELD in order, with the shadow deck record (R169). -/
def runChecks (m : List Host.Cell) (d : DeckConfig) : List Check :=
  windowChecks m d.railLength d.separation ++ recordChecks m

/-! ## ARM (R164 to R168, R144) -/

/-- Every frame whose state word holds POSTED, in frame order, is validated (R144). -/
def State.takeAllPosted (s : State) : State :=
  allFrames.foldl (fun s (f : FrameId) => if readWord s.mem (Config.frameBase f) = 1#32 then s.takePosted f else s) s

/-- An ARM is refused: the result, ERROR_ADDRESS when the refusal names a field, and the frames left in POSTED (R161, R168). -/
def State.refuseArm (s : State) (code : Nat) (offset : Option Nat) : State :=
  let s := { s with control := { s.control with arming := none } }.setResult code
  let s := match offset with
    | none => s
    | some a => s.setErrorAddress a
  s.takeAllPosted

/-- An accepted ARM request: result BUSY, the records read and checked, and the positions asked for (R164 to R166). -/
def State.startArm (s : State) : State :=
  let s := s.setResult 1
  match firstFailure (armChecks s.mem) with
  | some c => s.refuseArm c.code (some c.offset)
  | none =>
    let copies := readAll s.mem
    let w : ArmWait :=
      { copies := copies, positions := ⟨none, none⟩, expiry := s.time + copies.deck.actionLimit * 1000 }
    ({ s with control := { s.control with arming := some w } }.send (.positionRequest .a)).send (.positionRequest .b)

/-- The initial socket record of a site at ARM (R4). -/
def initialSocket (c : SiteConfig) : Socket :=
  { Socket.reset with
    state := if c.lockout then .locked else if c.enable then .empty else .disabled
    latch := c.lockout }

/-- The head record at ARM (R52). -/
def initialHead (p : Point) : HeadRecord := { HeadRecord.reset with x := p.x, y := p.y }

/-- A frame's state word as it stands in memory is ACTIVE, CLOSE or SPENT (R144). -/
def staleWord (w : Word) : Bool := w == 2#32 || w == 3#32 || w == 4#32

/-- Step 1 of R144 for one frame: the reason code written STALE, the pockets done count kept, the state word REJECTED. -/
def State.rejectStale (s : State) (f : FrameId) : State :=
  let base := Config.frameBase f
  if staleWord (readWord s.mem base) then
    let s := (s.writeReason f .stale (fieldByte s.mem (base + 0x0D))).writeFrameState f .rejected
    s.setFrame f { FrameRecord.reset with state := .rejected }
  else s

/-- Some frame's state word makes the frames' handling at ARM reject or activate it (R144). -/
def State.framesPending (s : State) : Bool :=
  allFrames.any fun (f : FrameId) =>
    let w := readWord s.mem (Config.frameBase f)
    staleWord w || w == 1#32

/-- The frames at a completed ARM: stale ones rejected, waiting ones validated, TRAY set once (R144). -/
def State.armFrames (s : State) : State :=
  let some_ := s.framesPending
  let s := (allFrames.foldl (fun s (f : FrameId) => s.rejectStale f) s).takeAllPosted
  if some_ then s.setFlag .tray else s

/-- An ARM completes in the order of R167. -/
def State.completeArm (s : State) (c : Shadow) (pa pb : Point) : State :=
  let s := { s with
    shadow := some c
    time := 0
    sites :=
      { sockets := Vector.ofFn fun i : Fin 32 => initialSocket c.sites[i]
        tests := Vector.replicate 32 TestRecord.reset }
    units := UnitTable.reset
    planner := { heads := ⟨initialHead pa, initialHead pb⟩, requests := Vector.replicate 32 none, supply := false }
    rail := { reserved := ⟨some ⟨pa.x, pa.x⟩, some ⟨pb.x, pb.x⟩⟩, waiting := ⟨none, none⟩ }
    link := ⟨.empty, .empty⟩
    control := { s.control with state := .held, holdAck := false, arming := none } }
  (s.setResult 0).armFrames

/-- The position checks of R166, in order. -/
def positionsFit (d : DeckConfig) (pa pb : Point) : Bool :=
  pa.x ≤ d.railLength && pa.y ≤ d.yTravel && pb.x ≤ d.railLength && pb.y ≤ d.yTravel && pa.x + d.separation ≤ pb.x

/-- A POSITION during the wait of an ARM, which is in UNARMED (R111, R164, R166). -/
def State.takePosition (s : State) (h : HeadId) (p : Point) : State :=
  match s.isIn .unarmed, s.control.arming with
  | false, _ | true, none => s
  | true, some w =>
    match w.positions.get h with
    | some _ => s
    | none =>
      let positions := w.positions.set h (some p)
      match positions.a, positions.b with
      | some pa, some pb =>
        if positionsFit w.copies.deck pa pb then s.completeArm w.copies pa pb else s.refuseArm 29 none
      | _, _ => { s with control := { s.control with arming := some { w with positions := positions } } }

/-- The wait for the positions ends first (R166). -/
def State.positionWaitOver (s : State) : State :=
  match s.control.arming with
  | none => s
  | some w => (s.reach w.expiry).refuseArm 30 none

/-! ## RUN from HELD (R169, R170) -/

/-- The action flags word of a site record: REINSTATE in bit 0, JAM_CLEAR in bit 1 (section 8.2). -/
def actionFlags (m : List Host.Cell) (i : Site) : Word := readWord m (Config.siteBase i + 8)

/-- The write-back of a site's action flags when either was read as set (R27). -/
def State.writeBack (s : State) (i : Site) (flags : Word) : State :=
  if flags.getLsbD 0 || flags.getLsbD 1 then s.poke (Config.siteBase i + 8) 0#32 else s

/-- The edits of all sites in order, then the write-back of their action flags (R22, R27, R170). -/
def State.takeEdits (s : State) : State :=
  let m := s.mem
  let s := allSites.foldl
    (fun s i => s.editSite i ((actionFlags m i).getLsbD 0) ((actionFlags m i).getLsbD 1)) s
  allSites.foldl (fun s i => s.writeBack i (actionFlags m i)) s

/-- A RUN taken in HELD: the checks, and steps 1 and 2 of R170; step 3 follows the requests the edits raise. DESIGN CHOICE (log
entry 26): the recovery timer that a JAM_CLEAR starts takes its duration by the profile index read at this same RUN, since step 1
replaces the site copies before the edits and R3 reads the copy at the timer's start, although R22 names the profile value after
JAM_CLEAR. -/
def State.runFromHeld (s : State) : State :=
  match firstFailure (runChecks s.mem s.deck) with
  | some c => (s.setResult c.code).setErrorAddress c.offset
  | none =>
    let before := allSites.filter s.usable
    let s := ({ s with shadow := some (rereadInto s.cfg s.mem) }.setResult 0).takeEdits
    let s := if before.any fun i => !s.usable i then s.reroute else s
    s.push .runEntry

/-- A STOPPED head goes to IDLE at the entry to RUN or DRAINING (R76). -/
def State.wakeHead (s : State) (h : HeadId) : State :=
  if (s.head h).state = .stopped then s.setHeadState h .idle else s

/-- Steps 3 and 4 of R170: hold acknowledge cleared, RUN or DRAINING entered, untested units routed, the heads IDLE and
selecting, and the test of R180 after them (R47, R76, R175). -/
def State.enterFromHeld (s : State) : State :=
  if s.isIn .held then
    let d : DeviceState := if s.control.drainLatch then .draining else .run
    let s := { s with control := { s.control with state := d, holdAck := false } }
    let s := if s.control.drainLatch then s.reroute else s
    (((s.wakeHead .a).wakeHead .b).push .selectIdle).push .drainTest
  else s

end Sys2Proof.Machine
end

