-- ==== Sys2Proof/WellFormed.lean ====
section
/-! DEFINITION. Which commands can be sent as their rows describe them. `exec` gives a meaning to every command, the
ill-formed ones among them; well-formedness says what a sender that keeps to the spec sends. -/

namespace Sys2Proof

/-- The largest whole number a 32-bit field carries. -/
def wordLimit : Nat := 4294967296

/-- Every byte of the word is written: a full write (R148). -/
def fullWrite (enables : BitVec 4) : Bool := enables == 0xF#4

/-- An aligned offset that holds a watched state word: a frame's or a notice slot's (R148, section 8.5). -/
def watchedWord (a : Nat) : Bool :=
  (0x4000 ≤ a && a < 0x10000 && a % 0x1000 == 0) || (0x1000 ≤ a && a < 0x1800 && a % 0x40 == 0)

/-- The bytes from `offset` on, `n` of them, touch a watched state word. -/
def touchesWatched (offset : Nat) : Nat → Bool
  | 0 => false
  | n + 1 => watchedWord ((offset + n) / 4 * 4) || touchesWatched offset n

/-- A register write that R150 and R151 drop. -/
def droppedRegisterWrite (offset : BitVec 5) (enables : BitVec 4) : Bool :=
  !fullWrite enables ||
    (offset.toNat / 4 != 1 && offset.toNat / 4 != 3 && offset.toNat / 4 != 4)

/-- The command has the form its row of the opcode table describes. -/
def Instr.wellFormed : Instr → Bool
  | .ready site _ => site < 32
  | .endOfTest site _ => site < 32
  | .position _ x y => x < wordLimit && y < wordLimit
  | .registerWriteDropped offset enables _ => enables != 0#4 && droppedRegisterWrite offset enables
  | .exchangeMemoryWrite offset bytes =>
    bytes != [] && offset.toNat + bytes.length ≤ 0x10000 && !touchesWatched offset.toNat bytes.length
  | .frameWriteRefused _ enables _ => enables != 0#4
  | .slotWriteRefused _ enables value => enables != 0#4 && !(fullWrite enables && value == 0#32)
  | .contactExpiry _ => true
  | .eotWatchdogExpiry _ => true
  | .releaseExpiry _ => true
  | .recoveryExpiry _ => true
  | .arrived _ => true
  | .actDone _ _ _ => true
  | .positionWaitExpiry => true
  | .vacuumLost _ _ => true
  | .driveFault _ => true
  | .travelWatchdogExpiry _ => true
  | .actionWatchdogExpiry _ => true
  | .arm _ => true
  | .run _ => true
  | .hold _ => true
  | .drain _ => true
  | .reset _ => true
  | .undefinedRequest _ _ => true
  | .attentionThreshold _ => true
  | .attentionClear _ => true
  | .levels _ => true
  | .powerOnReset => true
  | .posted _ => true
  | .close _ => true
  | .frameFree _ => true
  | .slotFree _ => true

end Sys2Proof
end

