-- ==== Sys2Proof/Machine/Operands.lean ====
section
/-! DEFINITION. The forms a host write takes (R128, R148, R150): a write to a frame's state word, the aligned words a write to
exchange memory covers and their byte enables, and the request code of a CONTROL write. -/

namespace Sys2Proof.Machine

/-! ## Frame state words (R128, R144) -/

/-- A refused write to a frame's state word: the word keeps its value, ERROR_ADDRESS names it, and, but in UNARMED, a notice is
raised with the station of a frame that is ACTIVE, CLOSE or SPENT (R128). -/
def State.refuseFrameWrite (s : State) (f : FrameId) : State :=
  let s := s.setErrorAddress (Config.frameBase f)
  if s.isIn .unarmed then s
  else
    let r := s.frame f
    let station := if r.inUse || r.state == .spent then r.copy.map (·.station) else none
    s.raise { kind := .frameWriteRefused, station := station }

/-- An accepted POSTED: validated at once, except while an ARM is in progress (R129, R144). -/
def State.acceptPosted (s : State) (f : FrameId) : State :=
  let s := s.writeFrameState f .posted
  if s.control.arming.isSome then s else s.takePosted f

/-- An accepted CLOSE; in UNARMED it is a write to the word and nothing else (R140, R144). -/
def State.acceptClose (s : State) (f : FrameId) : State :=
  let s := s.writeFrameState f .close
  if s.isIn .unarmed then s else s.closeFrame f

/-- An accepted FREE: the copy and the marks are dropped (R128). -/
def State.acceptFree (s : State) (f : FrameId) : State := (s.writeFrameState f .free).setFrame f FrameRecord.reset

/-- A host write to a frame's state word, judged against the value the word holds (R128, R148). -/
def State.frameWrite (s : State) (f : FrameId) (narrow : Bool) (value : Word) : State :=
  let held := readWord s.mem (Config.frameBase f)
  if narrow then s.refuseFrameWrite f
  else if value = held then s
  else if held = 0#32 ∧ value = 1#32 then s.acceptPosted f
  else if held = 2#32 ∧ value = 3#32 then s.acceptClose f
  else if (held = 4#32 ∨ held = 5#32) ∧ value = 0#32 then s.acceptFree f
  else s.refuseFrameWrite f

/-! ## Word writes (R146, R148) -/

/-- The bytes of a word that are enabled, stored from an offset on. -/
def storeEnabled (m : List Host.Cell) (a : Nat) (enables : BitVec 4) (value : Word) : List Host.Cell :=
  [0, 1, 2, 3].foldl (fun m j => if enables.getLsbD j then writeByte m (a + j) (value.extractLsb' (8 * j) 8) else m) m

/-- The frame whose state word lies at an offset. -/
def frameAt (a : Nat) : Option FrameId := allFrames.find? fun (f : FrameId) => Config.frameBase f == a

/-- The slot whose state word lies at an offset. -/
def slotAt (a : Nat) : Option SlotId := allSlots.find? fun (k : SlotId) => Config.slotBase k == a

/-- A host write of an aligned word, or of some of its bytes: a watched state word goes to its owner, any other is stored or
dropped (R146, R148). -/
def State.wordWrite (s : State) (a : Nat) (enables : BitVec 4) (value : Word) : State :=
  if enables = 0#4 then s
  else
    match frameAt a, slotAt a with
    | some f, _ => s.frameWrite f (!fullWrite enables) value
    | none, some k => s.slotWrite k (!fullWrite enables) value
    | none, none => s.setMem (storeEnabled s.mem a enables value)

/-- Byte j of the write at an offset that falls at address a, when it does. -/
def writtenByte (offset : Nat) (bytes : List Byte) (a : Nat) : Option Byte :=
  if offset ≤ a then bytes[a - offset]? else none

/-- The word write at an aligned address: the enables and the value. -/
def wordTask (offset : Nat) (bytes : List Byte) (a : Nat) : Task :=
  let b (j : Nat) : Option Byte := writtenByte offset bytes (a + j)
  .hostWord a (BitVec.ofBool (b 3).isSome ++ BitVec.ofBool (b 2).isSome ++ BitVec.ofBool (b 1).isSome
      ++ BitVec.ofBool (b 0).isSome)
    ((b 3).getD 0#8 ++ (b 2).getD 0#8 ++ (b 1).getD 0#8 ++ (b 0).getD 0#8)

/-- The aligned words a host write covers, in ascending address order (R148). -/
def wordTasks (offset : Nat) (bytes : List Byte) : List Task :=
  match bytes with
  | [] => []
  | _ :: _ =>
    let first := offset / 4
    let last := (offset + bytes.length - 1) / 4
    (List.range (last - first + 1)).map fun n => wordTask offset bytes (4 * (first + n))

end Sys2Proof.Machine
end

