-- ==== Sys2Proof/Machine/Requests.lean ====
section
/-! DEFINITION. Operating-state control's answer to each CONTROL request (R174), and the two resets (R183, R184). -/

namespace Sys2Proof.Machine

/-- The ARM marker: an ARM has been accepted and is in progress (R173). -/
def State.armInProgress (s : State) : Bool := s.control.arming.isSome

/-- A request that the present device state does not accept: BUSY while an ARM is in progress, BAD_STATE otherwise (R150,
R164, R174). -/
def State.refuseRequest (s : State) : State := if s.armInProgress then s.setResult 1 else s.setResult 2

/-- The ARM request (R164, R174). -/
def State.requestArm (s : State) : State :=
  if s.isIn .unarmed && !s.armInProgress then s.startArm else s.refuseRequest

/-- The RUN request (R171, R174, R175). -/
def State.requestRun (s : State) : State :=
  match s.control.state with
  | .held => s.runFromHeld
  | .drained =>
    ({ s with control := { s.control with state := .run, drainLatch := false } }.setResult 0).push .selectIdle
  | .unarmed | .run | .holding | .draining | .halted => s.refuseRequest

/-- The HOLD request (R174, R176). -/
def State.requestHold (s : State) : State := if s.working then (s.setResult 0).enterHolding false else s.refuseRequest

/-- The DRAIN request (R47, R174, R179, R180); selection runs for the idle heads at the entry to DRAINING (R66). -/
def State.requestDrain (s : State) : State :=
  match s.control.state with
  | .held => { s with control := { s.control with drainLatch := true } }.setResult 0
  | .run =>
    let s := { s with control := { s.control with state := .draining, drainLatch := true } }.setResult 0
    (s.reroute.push .selectIdle).push .drainTest
  | .unarmed | .holding | .draining | .drained | .halted => s.refuseRequest

/-- A soft reset (R183): every internal record at its reset value, STOP(all) sent, ATTENTION and ERROR_ADDRESS cleared, the
result OK; LEVELS, the threshold and exchange memory kept. The queue of waiting commands and the model's own fields `outbox`
and `choices` are no records of the 7340 and go on. -/
def State.softReset (s : State) : State :=
  { State.reset with
    pending := s.pending
    regs := { Registers.reset with levels := s.regs.levels, threshold := s.regs.threshold }
    mem := s.mem
    outbox := s.outbox ++ [.stopAll]
    choices := s.choices }

/-- A power-on reset (R184): `State.reset` with the queue of waiting commands kept. -/
def State.powerOn (s : State) : State := { State.reset with pending := s.pending }

/-- The request of a CONTROL write by its code: ARM 1, RUN 2, HOLD 3, DRAIN 4, RESET 5, and 6 and 7 that no state accepts
(R150). -/
def State.takeRequest (s : State) (code : Nat) : State :=
  match code with
  | 0 => s
  | 1 => s.requestArm
  | 2 => s.requestRun
  | 3 => s.requestHold
  | 4 => s.requestDrain
  | 5 => s.softReset
  | _ => s.refuseRequest

/-- A host write to CONTROL: the threshold first, then the request (R150). -/
def State.controlWrite (s : State) (code : Nat) (threshold : BitVec 3) : State := (s.setThreshold threshold).takeRequest code

/-- A host write into the register window (R150 to R154): narrow writes, and writes to IDENT, STATUS, ERROR_ADDRESS and the
unused offsets, are dropped. -/
def State.registerWrite (s : State) (offset : BitVec 5) (enables : BitVec 4) (value : Word) : State :=
  if fullWrite enables then
    match offset.toNat / 4 with
    | 1 => s.controlWrite (value.extractLsb' 0 3).toNat (value.extractLsb' 8 3)
    | 3 => s.clearFlags value
    | 4 => s.setLevels value
    | _ => s
  else s

end Sys2Proof.Machine
end

