-- ==== Sys2Proof/Machine/Cascade.lean ====
section
/-! DEFINITION. The follow-up work of an event: one task, and the tasks of an event run until none is left. -/

namespace Sys2Proof.Machine

/-- One piece of follow-up work. -/
def State.runTask (s : State) : Task → State
  | .entered i => s.requestEntered i
  | .selectIdle => s.selectResting
  | .selectHead h => s.select h
  | .legEnd h ok => s.legEnded h ok
  | .runEntry => s.enterFromHeld
  | .drainTest => s.drainTest
  | .expiry i => s.timerExpired i
  | .hostWord a enables value => s.wordWrite a enables value

/-- The tasks of an event, in order, then what is taken directly after the event. What the bound leaves undone stays in the
state and is taken with the next event (log entry 7). -/
def cascade : Nat → State → State
  | 0, s => s
  | n + 1, s =>
    match s.agenda, s.trailing with
    | t :: rest, _ => cascade n ({ s with agenda := rest }.runTask t)
    | [], t :: rest => cascade n ({ s with trailing := rest }.runTask t)
    | [], [] => s

/-- An event's own effects are in place: its follow-up work is done. -/
def State.finish (s : State) : Answer := .next (cascade Config.cascadeFuel s)

end Sys2Proof.Machine
end

