-- ==== Sys2Proof/Machine/HostWrites.lean ====
section
/-! DEFINITION. The host's writes to exchange memory and to its watched state words (R128, R146, R148, R149). -/

namespace Sys2Proof.Machine

/-- A host write of bytes: its aligned words are taken one at a time, in ascending order, each with the follow-up work it
starts (R148). -/
def execExchangeMemoryWrite (offset : BitVec 16) (bytes : List Byte) (s : State) : Answer :=
  if Config.memorySize < offset.toNat + bytes.length then .fault (.outsideExchangeMemory offset.toNat bytes.length)
  else { s with trailing := wordTasks offset.toNat bytes ++ s.trailing }.finish

/-- A full write of POSTED to a frame's state word (R129). -/
def execPosted (f : FrameId) (s : State) : Answer := (s.frameWrite f false 1#32).finish

/-- A full write of CLOSE to a frame's state word (R140). -/
def execClose (f : FrameId) (s : State) : Answer := (s.frameWrite f false 3#32).finish

/-- A full write of FREE to a frame's state word (R128). -/
def execFrameFree (f : FrameId) (s : State) : Answer := (s.frameWrite f false 0#32).finish

/-- A write of some bytes of a frame's state word (R128, R148). -/
def execFrameWriteRefused (f : FrameId) (enables : BitVec 4) (value : Word) (s : State) : Answer :=
  (if enables = 0#4 then s else s.frameWrite f (!fullWrite enables) value).finish

/-- A full write of FREE to a slot's state word (R149). -/
def execSlotFree (k : SlotId) (s : State) : Answer := (s.slotWrite k false 0#32).finish

/-- A write of some bytes of a slot's state word (R148, R149). -/
def execSlotWriteRefused (k : SlotId) (enables : BitVec 4) (value : Word) (s : State) : Answer :=
  (if enables = 0#4 then s else s.slotWrite k (!fullWrite enables) value).finish

end Sys2Proof.Machine
end

