-- ==== Sys2Proof/Machine/Motion.lean ====
section
/-! DEFINITION. The reports of the drives and the watchdogs of the motion link (chapter 6). -/

namespace Sys2Proof.Machine

/-! ## ARRIVED and ACT_DONE (R111, R113, R116, R124) -/

/-- ARRIVED: it matches an outstanding TRAVEL, whose record is emptied first; any other is discarded (R111, R113, R124). -/
def State.takeArrived (s : State) (h : HeadId) : State :=
  match s.link.get h with
  | .travel x y _ _ _ =>
    let s := s.setCommand h .empty
    if s.isIn .halted then s.travelEndedHalted h x y else s.travelEnded h x y
  | _ => s

/-- The judgement of a matched attempt: done, sent again, or failed; in HALTED there is no retry (R116, R124). -/
def State.judgeAttempt (s : State) (h : HeadId) (k : Nozzle) (action : Action) (attempt : Nat) (vacuum : Bool) : State :=
  if action.success vacuum then s.actionEnded h k true
  else if attempt ≤ s.retries action ∧ s.isIn .halted = false then s.sendAct h k action (attempt + 1)
  else s.actionEnded h k false

/-- ACT_DONE: it matches an outstanding ACT of the same nozzle, whose record is emptied first (R111, R116). -/
def State.takeActDone (s : State) (h : HeadId) (k : Nozzle) (vacuum : Bool) : State :=
  match s.link.get h with
  | .act n action attempt _ => if n = k then (s.setCommand h .empty).judgeAttempt h k action attempt vacuum else s
  | _ => s

/-! ## VACUUM_LOST and DRIVE_FAULT (R121 to R123) -/

/-- The head's command record holds an ACT for the nozzle (R121, R122). -/
def State.actingWith (s : State) (h : HeadId) (k : Nozzle) : Bool :=
  match s.link.get h with
  | .act n _ _ _ => n == k
  | _ => false

/-- VACUUM_LOST (R121, R122): a loss when the slot holds a unit outside an action of its nozzle; in RUN and DRAINING it asks
for the automatic HOLD (R178). Discarded in UNARMED (R126). -/
def State.takeVacuumLost (s : State) (h : HeadId) (k : Nozzle) : State :=
  match s.slot h k with
  | none => s
  | some u =>
    if s.isIn .unarmed || s.actingWith h k then s
    else
      let s := (s.declareLost u .vacuumLost).setSlot h k none
      if s.working then s.enterHolding true else s

/-- The notice of a DRIVE_FAULT (R123). -/
def faultNotice : FaultTarget → Notice
  | .head h => { kind := .driveFault, head := some h }
  | .site i => { kind := .driveFault, site := some i }

/-- DRIVE_FAULT: the notice, and the halt (R123). Discarded in UNARMED (R126). -/
def State.takeDriveFault (s : State) (t : FaultTarget) : State :=
  if s.isIn .unarmed then s
  else
    let s := s.raise (faultNotice t)
    if s.isIn .halted then s else s.enterHalted

/-! ## Watchdogs (R119, R120) -/

/-- A notice with the place of a leg: the site of a socket, the station and pocket of a pocket, neither for a clearance
point (R119, R120). -/
def Notice.atPlace (n : Notice) : Location → Notice
  | .input st i => { n with station := some (.input st), pocket := some i }
  | .output st i => { n with station := some (.output st), pocket := some i }
  | .strip p => { n with station := some .strip, pocket := some p.val }
  | .socket i => { n with site := some i }
  | .clearance _ => n

/-- A notice with the place of the head's leg. -/
def State.noticeAtLeg (s : State) (h : HeadId) (n : Notice) : Notice :=
  match (s.head h).legs with
  | [] => n
  | l :: _ => n.atPlace l.location

/-- The serial an ACTION_TIMEOUT carries: the unit on the nozzle for a PLACE, the unit in the socket or strip pocket for a
PICK there (R120). -/
def State.actionSerial (s : State) (h : HeadId) (k : Nozzle) (action : Action) : Option Word :=
  match action with
  | .place => s.serialOf (s.slot h k)
  | .pick =>
    match ((s.head h).legs.head?).map Leg.location with
    | some (.socket i) => s.socketSerial i
    | some (.strip p) => s.serialOf (s.stripPocket p).content
    | _ => none

/-- The device states in which a watchdog runs: RUN, DRAINING and HOLDING (R119, R181). -/
def State.watched (s : State) : Bool := s.working || s.isIn .holding

/-- A head's travel watchdog expires: MOTION_TIMEOUT, and the halt (R119). -/
def State.travelTimeout (s : State) (h : HeadId) : State :=
  match s.watched, s.link.get h with
  | true, .travel _ _ _ _ (.running t) =>
    let s := s.reach t
    (s.raise (s.noticeAtLeg h { kind := .motionTimeout, head := some h })).enterHalted
  | _, _ => s

/-- A head's action watchdog expires: ACTION_TIMEOUT, and the halt (R120). -/
def State.actionTimeout (s : State) (h : HeadId) : State :=
  match s.watched, s.link.get h with
  | true, .act k action _ (.running t) =>
    let s := s.reach t
    (s.raise (s.noticeAtLeg h
      { kind := .actionTimeout, head := some h, nozzle := some k, serial := s.actionSerial h k action })).enterHalted
  | _, _ => s

/-! ## The commands -/

/-- ARRIVED(head) (R113). -/
def execArrived (h : HeadId) (s : State) : Answer := (s.takeArrived h).finish

/-- ACT_DONE(head, nozzle, vacuum held) (R116). -/
def execActDone (h : HeadId) (k : Nozzle) (vacuum : Bool) (s : State) : Answer := (s.takeActDone h k vacuum).finish

/-- POSITION(head, x, y) (R166). -/
def execPosition (h : HeadId) (x y : Nat) (s : State) : Answer := (s.takePosition h ⟨x, y⟩).finish

/-- The wait of an ARM for the positions ends (R166). -/
def execPositionWaitExpiry (s : State) : Answer := s.positionWaitOver.finish

/-- VACUUM_LOST(head, nozzle) (R121). -/
def execVacuumLost (h : HeadId) (k : Nozzle) (s : State) : Answer := (s.takeVacuumLost h k).finish

/-- DRIVE_FAULT(head or site) (R123). -/
def execDriveFault (t : FaultTarget) (s : State) : Answer := (s.takeDriveFault t).finish

/-- A head's travel watchdog expires (R119). -/
def execTravelWatchdogExpiry (h : HeadId) (s : State) : Answer := (s.travelTimeout h).finish

/-- A head's action watchdog expires (R120). -/
def execActionWatchdogExpiry (h : HeadId) (s : State) : Answer := (s.actionTimeout h).finish

end Sys2Proof.Machine
end

