-- ==== Sys2Proof/Machine/Registers.lean ====
section
/-! DEFINITION. The host's writes into the register window, the two resets, and power. -/

namespace Sys2Proof.Machine

/-- CONTROL with ARM (R164). -/
def execArm (threshold : BitVec 3) (s : State) : Answer := (s.controlWrite 1 threshold).finish

/-- CONTROL with RUN (R175). -/
def execRun (threshold : BitVec 3) (s : State) : Answer := (s.controlWrite 2 threshold).finish

/-- CONTROL with HOLD (R176). -/
def execHold (threshold : BitVec 3) (s : State) : Answer := (s.controlWrite 3 threshold).finish

/-- CONTROL with DRAIN (R179). -/
def execDrain (threshold : BitVec 3) (s : State) : Answer := (s.controlWrite 4 threshold).finish

/-- CONTROL with RESET, the soft reset (R183). -/
def execReset (threshold : BitVec 3) (s : State) : Answer := (s.controlWrite 5 threshold).finish

/-- CONTROL with a request code that no state accepts, 6 or 7 (R150). -/
def execUndefinedRequest (seven : Bool) (threshold : BitVec 3) (s : State) : Answer :=
  (s.controlWrite (if seven then 7 else 6) threshold).finish

/-- CONTROL with request NONE: the threshold alone (R150). -/
def execAttentionThreshold (threshold : BitVec 3) (s : State) : Answer := (s.controlWrite 0 threshold).finish

/-- A write to ATTENTION (R153). -/
def execAttentionClear (value : Word) (s : State) : Answer := (s.clearFlags value).finish

/-- A write to LEVELS (R154). -/
def execLevels (value : Word) (s : State) : Answer := (s.setLevels value).finish

/-- A write into the register window, dropped when it is narrow or to a register that takes none (R150, R151). -/
def execRegisterWriteDropped (offset : BitVec 5) (enables : BitVec 4) (value : Word) (s : State) : Answer :=
  (s.registerWrite offset enables value).finish

/-- Power is applied (R184). -/
def execPowerOnReset (s : State) : Answer := s.powerOn.finish

end Sys2Proof.Machine
end

