-- ==== Sys2Proof/Machine/Tester.lean ====
section
/-! DEFINITION. The commands of the tester: READY and END (section 1.3). -/

namespace Sys2Proof.Machine

/-- A tester message for a site outside 0 to 31 is discarded (R5), and so is every one in UNARMED (R1). -/
def State.fromTester (s : State) (site : Nat) (f : Site → State) : State :=
  if h : site < 32 then (if s.isIn .unarmed then s else f ⟨site, h⟩) else s

/-- END at a site: a normal end of the test in TESTING (R9), a late or stray one otherwise (R11). -/
def State.takeEnd (s : State) (i : Site) (bin : Byte) : State :=
  if (s.socket i).state = .testing then s.normalEnd i bin else s.lateEnd i bin

/-- READY(site, up or down) (R7). -/
def execReady (site : Nat) (up : Bool) (s : State) : Answer := (s.fromTester site fun i => s.takeReady i up).finish

/-- END(site, bin) (R9, R11). -/
def execEndOfTest (site : Nat) (bin : Byte) (s : State) : Answer := (s.fromTester site fun i => s.takeEnd i bin).finish

end Sys2Proof.Machine
end

