-- ==== Sys2Proof/Machine/Timers.lean ====
section
/-! DEFINITION. The expiries of a socket's timer (R3). -/

namespace Sys2Proof.Machine

/-- The contact timer expires (R6). -/
def execContactExpiry (i : Site) (s : State) : Answer := (s.timerEvent i .contact).finish

/-- The end-of-test watchdog expires (R10). -/
def execEotWatchdogExpiry (i : Site) (s : State) : Answer := (s.timerEvent i .endOfTest).finish

/-- The release timer expires (R14). -/
def execReleaseExpiry (i : Site) (s : State) : Answer := (s.timerEvent i .release).finish

/-- The recovery timer expires (R16). -/
def execRecoveryExpiry (i : Site) (s : State) : Answer := (s.timerEvent i .recovery).finish

end Sys2Proof.Machine
end

