-- ==== Sys2Proof/Machine/Dispatch.lean ====
section
/-! DEFINITION. The effect of a command on everything but the queue: one arm for each row of spec/opcode_table.json. -/

namespace Sys2Proof.Machine

def exec (i : Instr) (s : State) : Host.Outcome State Fault Refusal :=
  match i with
  | .ready site up => Sys2Proof.Machine.execReady site up s
  | .endOfTest site bin => Sys2Proof.Machine.execEndOfTest site bin s
  | .contactExpiry site => Sys2Proof.Machine.execContactExpiry site s
  | .eotWatchdogExpiry site => Sys2Proof.Machine.execEotWatchdogExpiry site s
  | .releaseExpiry site => Sys2Proof.Machine.execReleaseExpiry site s
  | .recoveryExpiry site => Sys2Proof.Machine.execRecoveryExpiry site s
  | .arrived head => Sys2Proof.Machine.execArrived head s
  | .actDone head nozzle vacuum => Sys2Proof.Machine.execActDone head nozzle vacuum s
  | .position head x y => Sys2Proof.Machine.execPosition head x y s
  | .positionWaitExpiry => Sys2Proof.Machine.execPositionWaitExpiry s
  | .vacuumLost head nozzle => Sys2Proof.Machine.execVacuumLost head nozzle s
  | .driveFault target => Sys2Proof.Machine.execDriveFault target s
  | .travelWatchdogExpiry head => Sys2Proof.Machine.execTravelWatchdogExpiry head s
  | .actionWatchdogExpiry head => Sys2Proof.Machine.execActionWatchdogExpiry head s
  | .arm threshold => Sys2Proof.Machine.execArm threshold s
  | .run threshold => Sys2Proof.Machine.execRun threshold s
  | .hold threshold => Sys2Proof.Machine.execHold threshold s
  | .drain threshold => Sys2Proof.Machine.execDrain threshold s
  | .reset threshold => Sys2Proof.Machine.execReset threshold s
  | .undefinedRequest seven threshold => Sys2Proof.Machine.execUndefinedRequest seven threshold s
  | .attentionThreshold threshold => Sys2Proof.Machine.execAttentionThreshold threshold s
  | .attentionClear value => Sys2Proof.Machine.execAttentionClear value s
  | .levels value => Sys2Proof.Machine.execLevels value s
  | .registerWriteDropped offset enables value => Sys2Proof.Machine.execRegisterWriteDropped offset enables value s
  | .powerOnReset => Sys2Proof.Machine.execPowerOnReset s
  | .exchangeMemoryWrite offset bytes => Sys2Proof.Machine.execExchangeMemoryWrite offset bytes s
  | .posted frame => Sys2Proof.Machine.execPosted frame s
  | .close frame => Sys2Proof.Machine.execClose frame s
  | .frameFree frame => Sys2Proof.Machine.execFrameFree frame s
  | .frameWriteRefused frame enables value => Sys2Proof.Machine.execFrameWriteRefused frame enables value s
  | .slotFree slot => Sys2Proof.Machine.execSlotFree slot s
  | .slotWriteRefused slot enables value => Sys2Proof.Machine.execSlotWriteRefused slot enables value s

end Sys2Proof.Machine
end

