-- ==== Sys2Proof/Machine/Clock.lean ====
section
/-! DEFINITION. One tick of the internal time base (R3; log entry 2): the time advances by 1 µs, and the expiries that are then
due are put in the queue. -/

namespace Sys2Proof.Machine

/-- The command of a timer's expiry. -/
def TimerKind.expiry : TimerKind → Site → Instr
  | .contact => .contactExpiry
  | .endOfTest => .eotWatchdogExpiry
  | .release => .releaseExpiry
  | .recovery => .recoveryExpiry

/-- The expiry of a socket's timer, when it is due. -/
def State.dueTimer (s : State) (i : Site) : Option Instr :=
  match (s.socket i).timer with
  | .running k t _ => if t ≤ s.time then some (k.expiry i) else none
  | _ => none

/-- A running watchdog has reached its expiry time. -/
def Watchdog.isDue (w : Watchdog) (time : Nat) : Bool :=
  match w with
  | .running t => t ≤ time
  | .stopped => false

/-- The expiry of a head's watchdog, when it is due. -/
def State.dueWatchdog (s : State) (h : HeadId) : Option Instr :=
  match s.link.get h with
  | .empty => none
  | .travel _ _ _ _ w => if w.isDue s.time then some (.travelWatchdogExpiry h) else none
  | .act _ _ _ w => if w.isDue s.time then some (.actionWatchdogExpiry h) else none

/-- The end of an ARM's wait for the positions, when it is due (R166). -/
def State.dueWait (s : State) : Option Instr :=
  match s.control.arming with
  | none => none
  | some w => if w.expiry ≤ s.time then some .positionWaitExpiry else none

/-- The expiries due now: sockets in order, then head A, head B, and the wait of an ARM (log entry 2). -/
def State.due (s : State) : List Instr :=
  allSites.filterMap s.dueTimer ++ [HeadId.a, HeadId.b].filterMap s.dueWatchdog ++ s.dueWait.toList

/-- The internal time base is a 64-bit count of µs (R3). -/
def State.tick (s : State) : State := { s with time := (s.time + 1) % 18446744073709551616 }

/-- One tick with its due expiries, taken on an empty queue. -/
def State.idle (s : State) : State := { s.tick with pending := s.tick.due }

end Sys2Proof.Machine
end

