-- ==== Sys2Proof/Safety.lean ====
section
/-! DEFINITION. What the manual says of the machine as a whole, in the terms the statements use: the two heads kept apart (R79),
one frame in use for each station (R131), units in one place each (R31), the addresses the 7340 itself writes (R146), the
changes of device state (R173), what a dissolution and a hold leave (R74, R75), and where a notice goes (R155). -/

namespace Sys2Proof.Machine

/-! ## The rail (R78, R79) -/

/-- The reservations of the two heads are compatible (R79). -/
def State.headsApart (s : State) : Prop :=
  ∀ a b : Interval, s.rail.reserved.a = some a → s.rail.reserved.b = some b → a.hi + s.deck.separation ≤ b.lo

/-- A number lies in a closed interval. -/
def Interval.holds (iv : Interval) (x : Nat) : Prop := iv.lo ≤ x ∧ x ≤ iv.hi

/-- What keeps the heads apart through every step: the reservations are compatible and are intervals, an outstanding travel
goes to a point of its head's reservation, and a waiting leg's target is a point of its swept interval (R78, R79, R82, R83). -/
structure State.RailSafe (s : State) : Prop where
  apart : s.headsApart
  ordered : ∀ (h : HeadId) (iv : Interval), s.rail.reserved.get h = some iv → iv.lo ≤ iv.hi
  travel : ∀ (h : HeadId) (x y : Nat) (px py : Fin 4) (w : Watchdog), s.link.get h = .travel x y px py w →
    ∃ iv, s.rail.reserved.get h = some iv ∧ iv.holds x
  waiting : ∀ (h : HeadId) (w : WaitingLeg), s.rail.waiting.get h = some w → w.swept.holds w.x

/-! ## Tray frames (R131) -/

/-- At most one frame for each station is ACTIVE or CLOSE (R131). -/
def TrayBlock.distinct (T : TrayBlock) : Prop :=
  ∀ f g : FrameId, f ≠ g → T.frames[f].inUse = true → T.frames[g].inUse = true →
    ∀ st : Station, T.frames[f].isAt st = true → T.frames[g].isAt st = false

/-- Law 8 (R131): at most one frame for each station is in use, the activation list names each of its frames once, and each is
an input frame in use; and, as the tray frame unit writes it, an armed machine's state words in memory are those of the frames
in use. No frame is in use in UNARMED. -/
structure State.ListRight (s : State) : Prop where
  distinct : s.trays.distinct
  once : s.trays.inputs.Nodup
  listed : ∀ f ∈ s.trays.inputs, (s.frame f).inUse = true ∧ ∃ n : Fin 2, (s.frame f).isAt (.input n) = true
  words : s.control.state ≠ .unarmed → ∀ f : FrameId,
    ((s.frame f).state = .active ↔ readWord s.mem (0x4000 + f.val * 0x1000) = 2#32) ∧
    ((s.frame f).state = .close ↔ readWord s.mem (0x4000 + f.val * 0x1000) = 3#32)
  unarmed : s.control.state = .unarmed → s.trays.inputs = [] ∧ ∀ f : FrameId, (s.frame f).inUse = false

/-! ## Units (R31, R35, R42) -/

/-- The unit a place holds: on the nozzle, in the socket, in the strip pocket. -/
def State.holder (s : State) : Place → Option Handle
  | .nozzle h k => s.slot h k
  | .site i => (s.socket i).unit
  | .strip p => (s.stripPocket p).content

/-- The table of section 2.2: the state goes with the place. -/
def UnitState.fits : UnitState → Place → Bool
  | .fresh, .nozzle _ _ | .tested, .nozzle _ _ | .retest, .nozzle _ _ => true
  | .inSocket, .site _ => true
  | .queued, .strip _ => true
  | _, _ => false

/-- A unit's tests: in different sockets, at most three, none of a FRESH unit; a unit that is to be tested again wants it and has
had fewer than three (R33 to R35, R42, R44). -/
structure UnitRecord.TestsRight (r : UnitRecord) : Prop where
  sites : (r.attempts.map Attempt.site).Nodup
  three : r.attempts.length ≤ 3
  fresh : r.state = .fresh → r.attempts = []
  again : r.state = .retest ∨ r.state = .queued → ∃ c : Fin 8, r.disposition = .retestWanted c
  wanted : ∀ c : Fin 8, r.disposition = .retestWanted c → r.attempts.length < 3

/-- Laws 3, 4, 6 and 7 (R31, R35, R42), with what keeps them: each unit is where its record says, sockets and records agree, a
unit under test again has RETEST_WANTED, and the retest list names the units in the strip. -/
structure State.UnitsRight (s : State) : Prop where
  places : ∀ (p : Place) (u : Handle), s.holder p = some u ↔ ∃ r : UnitRecord, s.unit u = some r ∧ r.place = p
  fits : ∀ (u : Handle) (r : UnitRecord), s.unit u = some r → r.state.fits r.place = true
  tests : ∀ (u : Handle) (r : UnitRecord), s.unit u = some r → r.TestsRight
  full : ∀ i : Site, (s.socket i).state = .seated ∨ (s.socket i).state = .testing ∨ (s.socket i).state = .releasing ∨
    (s.socket i).state = .unloadReady → (s.socket i).unit ≠ none
  clear : ∀ i : Site, (s.socket i).state = .disabled ∨ (s.socket i).state = .locked ∨ (s.socket i).state = .retired ∨
    (s.socket i).state = .empty ∨ (s.socket i).state = .recovering → (s.socket i).unit = none
  under : ∀ (i : Site) (u : Handle) (r : UnitRecord), (s.socket i).state = .seated ∨ (s.socket i).state = .testing →
    (s.socket i).unit = some u → s.unit u = some r → r.attempts.length < 3 ∧ (∀ x ∈ r.attempts, x.site ≠ i) ∧
      (r.attempts = [] ∨ ∃ c : Fin 8, r.disposition = .retestWanted c)
  pockets : (s.units.retest.map RetestEntry.pocket).Nodup
  entries : ∀ e ∈ s.units.retest, (s.stripPocket e.pocket).content = some e.unit
  queued : ∀ p : Fin 16, (s.stripPocket p).content ≠ none → ∃ e ∈ s.units.retest, e.pocket = p
  limits : (∀ b : Fin 64, s.cfg.bins[b].limit ≤ 3) ∧
    ∀ w : ArmWait, s.control.arming = some w → ∀ b : Fin 64, w.copies.bins[b].limit ≤ 3

/-! ## Requests and motion (R19, R20, R56, R125) -/

/-- Law 9 (R19, R56): a bound site has no pending request. -/
def State.oneRequest (s : State) : Prop := ∀ i : Site, (s.socket i).bound ≠ none → s.request i = none

/-- Law 11 (R125), with what keeps it: a head with a command outstanding is in flight, or the device HALTED; a head with a
waiting leg is BOUND or in RAIL_WAIT; and in HELD both heads are STOPPED. -/
structure State.LinkRight (s : State) : Prop where
  flight : ∀ h : HeadId, s.link.get h ≠ .empty → (s.head h).state = .moving ∨ (s.head h).state = .acting ∨
    (s.head h).state = .yielding ∨ s.control.state = .halted
  waiting : ∀ h : HeadId, s.rail.waiting.get h ≠ none → (s.head h).state = .bound ∨ (s.head h).state = .railWait
  held : s.control.state = .held → ∀ h : HeadId, (s.head h).state = .stopped

/-- What holds of a head without a job: outside HALTED a head that is STOPPED, IDLE or in BIN_WAIT has no legs (R64, R74), and in
DRAINED both heads are IDLE (R76, R180). -/
structure State.RestingRight (s : State) : Prop where
  resting : s.control.state ≠ .halted → ∀ h : HeadId, (s.head h).state = .stopped ∨ (s.head h).state = .idle ∨
    (s.head h).state = .binWait → (s.head h).legs = []
  drained : s.control.state = .drained → ∀ h : HeadId, (s.head h).state = .idle

/-! ## Exchange memory (R146) -/

/-- The addresses the 7340 itself writes: the notice board, the action flags words of the site records, and in each frame the
state word, the word of the reason code, the list at 0x040 and the pocket results (R146). -/
def deviceOwned (a : Nat) : Bool :=
  (0x1000 ≤ a && a < 0x1800) || (0x300 ≤ a && a < 0x500 && 8 ≤ a % 16 && a % 16 < 12)
    || (0x4000 ≤ a && a < 0x10000
        && (a % 0x1000 < 4 || (0x0C ≤ a % 0x1000 && a % 0x1000 < 0x10) || (0x40 ≤ a % 0x1000 && a % 0x1000 < 0xE40)))

/-! ## The device state (R173) -/

/-- The table of R173, but for RESET. -/
def deviceEdge : DeviceState → DeviceState → Bool
  | .unarmed, .held => true
  | .held, .run | .held, .draining | .held, .halted => true
  | .run, .draining | .run, .holding | .run, .halted => true
  | .holding, .held | .holding, .halted => true
  | .draining, .holding | .draining, .drained | .draining, .halted => true
  | .drained, .run | .drained, .halted => true
  | _, _ => false

/-- One device state is reached from another by the table of R173, in any number of changes, without a RESET. -/
def deviceReaches : DeviceState → DeviceState → Prop := Relation.ReflTransGen fun a b => deviceEdge a b = true

/-- The request code of a command that writes CONTROL, in whatever form it is sent; 0 for every other command (R150). -/
def requestCode : Instr → Nat
  | .arm _ => 1
  | .run _ => 2
  | .hold _ => 3
  | .drain _ => 4
  | .reset _ => 5
  | .undefinedRequest seven _ => if seven then 7 else 6
  | .registerWriteDropped offset enables value =>
    if fullWrite enables && offset.toNat / 4 == 1 then (value.extractLsb' 0 3).toNat else 0
  | _ => 0

/-- The changes of device state one command may make, RESET and power apart: the completions of a hold and of a drain at any
command (R177, R180), and what the request or the report itself enters (R167, R174 to R181). -/
def deviceMoves (c : Instr) (d e : DeviceState) : Bool :=
  d == e || (d == .holding && e == .held) || (d == .draining && e == .drained)
    || match c with
      | .position _ _ _ => d == .unarmed && e == .held
      | .vacuumLost _ _ => (d == .run || d == .draining) && (e == .holding || e == .held)
      | .driveFault _ => d != .unarmed && e == .halted
      | .travelWatchdogExpiry _ | .actionWatchdogExpiry _ =>
        (d == .run || d == .draining || d == .holding) && e == .halted
      | _ =>
        match requestCode c with
        | 2 => (d == .held && (e == .run || e == .draining || e == .drained)) || (d == .drained && e == .run)
        | 3 => (d == .run || d == .draining) && (e == .holding || e == .held)
        | 4 => d == .run && (e == .draining || e == .drained)
        | _ => false

/-! ## Messages (R6, R92, R124, R126) -/

/-- The messages a device state lets out: TRAVEL in RUN and DRAINING alone, no START, ACT or second STOP in HALTED, and
POSITION_REQUEST in UNARMED alone. -/
def Message.allowedIn (d : DeviceState) : Message → Bool
  | .travel _ _ _ _ _ => d == .run || d == .draining
  | .start _ _ | .act _ _ _ | .stopAll => d != .halted
  | .positionRequest _ => d == .unarmed
  | .contact _ | .release _ | .interrupt => true

/-! ## Registers (R151, R154) -/

/-- The top class and the interrupt that STATUS shows are those the flags, the levels and the threshold give (R154). -/
def State.attentionTrue (s : State) : Prop :=
  s.regs.top = topClass s.regs ∧ s.regs.interrupt = interruptRaised s.regs

/-! ## Requests and resets (R174, R183, R184) -/

/-- The requests of CONTROL but RESET (R150, R174). -/
inductive HostRequest where
  | arm | run | hold | drain | undefined (seven : Bool)
  deriving DecidableEq, Repr

/-- The command of a request. -/
def HostRequest.command (q : HostRequest) (threshold : BitVec 3) : Instr :=
  match q with
  | .arm => .arm threshold
  | .run => .run threshold
  | .hold => .hold threshold
  | .drain => .drain threshold
  | .undefined seven => .undefinedRequest seven threshold

/-- The table of R174, no ARM being in progress: the device state accepts the request. -/
def HostRequest.accepted : HostRequest → DeviceState → Bool
  | .arm, .unarmed => true
  | .run, .held | .run, .drained => true
  | .hold, .run | .hold, .draining => true
  | .drain, .held | .drain, .run => true
  | _, _ => false

/-- The command takes the device to UNARMED from every state: RESET, power, and a full CONTROL write of code 5 in whatever
form it is sent. -/
def resets : Instr → Bool
  | .reset _ | .powerOnReset => true
  | .registerWriteDropped offset enables value =>
    fullWrite enables && offset.toNat / 4 == 1 && (value.extractLsb' 0 3).toNat == 5
  | _ => false

/-! ## Events -/

/-- No follow-up work of an earlier event is left over, as between any two events. -/
def State.atRest (s : State) : Prop := s.agenda = [] ∧ s.trailing = []

/-- No head takes up work at a selection or by preemption: neither is IDLE, BIN_WAIT or BOUND (R66, R72). -/
def State.noTakers (s : State) : Prop :=
  ∀ h : HeadId, (s.head h).state ≠ .idle ∧ (s.head h).state ≠ .binWait ∧ (s.head h).state ≠ .bound

/-! ## What a dissolution and a hold leave (R74, R75, R177) -/

/-- A head's legs not yet granted are withdrawn (R72, R74): what they held is released, no leg of the head waits, its units stay
on their nozzles, and its bound request goes back by R20 with the raise time of the job. -/
structure Withdrawn (h : HeadId) (s t : State) : Prop where
  units : (t.head h).slots = (s.head h).slots
  waiting : t.rail.waiting.get h = none
  claims : ∀ l ∈ (s.head h).legs, l.kind = .pick → ∀ p : Fin 16, l.location = .strip p →
    ∀ e ∈ t.units.retest, e.pocket = p → e.claim = none
  strips : ∀ l ∈ (s.head h).legs, l.kind ≠ .pick → ∀ p : Fin 16, l.location = .strip p →
    (t.stripPocket p).reservation ≠ some h
  pockets : ∀ l ∈ (s.head h).legs, ∀ (f : FrameId) (i : Nat), l.frame = some f →
    (∃ n : Fin 2, l.location = .input n i) ∨ (∃ n : Fin 8, l.location = .output n i) →
    (t.frame f).marks.getD i .isOpen ≠ .reserved h
  request : ∀ (j : Job) (i : Site), (s.head h).job = some j → j.site = some i → (s.socket i).bound = some h →
    (t.socket i).bound = none ∧
      t.request i = ((s.wanted i).map fun k => { kind := k, raised := j.raised }).or (s.request i)

/-- A head's job is dissolved (R74). -/
structure Dissolved (h : HeadId) (s t : State) : Prop extends Withdrawn h s t where
  job : (t.head h).job = none
  legs : (t.head h).legs = []

/-- The head has a travel or an action under way. -/
def HeadState.inFlight : HeadState → Bool
  | .moving | .acting | .yielding => true
  | .stopped | .idle | .bound | .railWait | .socketWait | .binWait => false

/-- What the entry to HOLDING leaves, by the table of R75: jobs not under way dissolved, resting heads STOPPED, heads in flight
as they are; and HELD with hold acknowledge and STATE when nothing is in flight, HOLDING otherwise (R176, R177). -/
structure HeldBack (s t : State) : Prop where
  link : t.link = s.link
  dissolved : ∀ h : HeadId, (s.head h).state = .bound ∨ (s.head h).state = .railWait ∨ (s.head h).state = .socketWait →
    (t.head h).state = .stopped ∧ Dissolved h s t
  resting : ∀ h : HeadId, (s.head h).state = .idle ∨ (s.head h).state = .binWait ∨ (s.head h).state = .stopped →
    t.head h = { s.head h with state := .stopped }
  flight : ∀ h : HeadId, (s.head h).state.inFlight = true → t.head h = s.head h
  held : (∀ h : HeadId, (s.head h).state.inFlight = false) → s.link = ⟨.empty, .empty⟩ →
    t.control = { s.control with state := .held, holdAck := true } ∧
      t.regs.attention.getLsbD AttentionClass.state.bit = true
  holding : (∃ h : HeadId, (s.head h).state.inFlight = true) ∨ s.link ≠ ⟨.empty, .empty⟩ →
    t.control = { s.control with state := .holding }

/-! ## Notices (section 8.4, R155) -/

/-- The bytes 0x06 to 0x0F of the slot a notice is written into (section 8.4): kind, present mask, head, nozzle, site, station,
pocket, bin, cause and suppressed count. -/
def noticeBytes (n : Notice) : List Byte :=
  [ BitVec.ofNat 8 n.kind.code,
    (if n.head = none then 0#8 else 1#8) ||| (if n.nozzle = none then 0#8 else 2#8) |||
      (if n.site = none then 0#8 else 4#8) ||| (if n.station = none then 0#8 else 8#8) |||
      (if n.serial = none then 0#8 else 16#8) ||| (if n.bin = none then 0#8 else 32#8) |||
      (if n.cause = none then 0#8 else 64#8),
    match n.head with | some .b => 1#8 | _ => 0#8,
    match n.nozzle with | some k => BitVec.ofNat 8 k.val | none => 0#8,
    match n.site with | some i => BitVec.ofNat 8 i.val | none => 0#8,
    match n.station with | some st => BitVec.ofNat 8 st.code | none => 0#8,
    match n.station, n.pocket with | none, _ => 0#8 | some _, some i => BitVec.ofNat 8 i | some _, none => 0xFF#8,
    n.bin.getD 0#8,
    match n.cause with | some c => BitVec.ofNat 8 c.code | none => 0#8,
    BitVec.ofNat 8 n.suppressed ]

/-- The slot holds the notice with a sequence number, in all its bytes (section 8.4). -/
def slotHolds (m : List Host.Cell) (k : SlotId) (n : Notice) (sequence : BitVec 16) : Prop :=
  let base := 0x1000 + k.val * 0x40
  readWord m base = 1#32 ∧ readHalf m (base + 4) = sequence ∧
  (∀ j : Nat, j < 10 → readByte m (base + 6 + j) = (noticeBytes n).getD j 0#8) ∧
  readWord m (base + 0x10) = n.serial.getD 0#32 ∧ readWord m (base + 0x14) = BitVec.ofNat 32 n.time ∧
  ∀ j : Nat, 0x18 ≤ j → j < 0x40 → readByte m (base + j) = 0#8

/-- The slot is the lowest-numbered FREE one (R155). -/
def lowestFree (m : List Host.Cell) (k : SlotId) : Prop :=
  readWord m (0x1000 + k.val * 0x40) = 0#32 ∧ ∀ j : SlotId, j < k → readWord m (0x1000 + j.val * 0x40) ≠ 0#32

/-- A notice that one event raised first is where R155 puts it: in the lowest-numbered FREE slot when none waits, else in the
holding queue while that has room; and NOTICE is set. -/
def noticed (s t : State) (n : Notice) : Prop :=
  let arrived : Notice := { n with time := s.time / 1000 % 2 ^ 32, suppressed := 0 }
  t.regs.attention.getLsbD AttentionClass.notice.bit = true ∧
  (∀ k : SlotId, s.board.queue = [] → lowestFree s.mem k → slotHolds t.mem k arrived s.board.sequence) ∧
  ((s.board.queue ≠ [] ∨ ∀ k : SlotId, readWord s.mem (0x1000 + k.val * 0x40) ≠ 0#32) → s.board.queue.length < 8 →
    ∃ m ∈ t.board.queue, { m with suppressed := 0 } = arrived)

end Sys2Proof.Machine
end

