-- ==== Sys2Proof/Certificates/Slice0/Obligations.lean ====
section
/-! DEFINITION. The statements about the LORJAV 7340 for the provers. An equation `exec c s = .next t` gives the whole next
state: every field that the expression of `t` does not name is as before. -/

open Sys2Proof Sys2Proof.Machine

/-! ## Steps -/

/-- A step takes the command at the front of the queue (the form of this model; log entry 2). -/
def Obligations.StepRunsFrontCommand : Prop :=
  ∀ (s : State) (c : Instr) (rest : List Instr), s.pending = c :: rest → step s = exec c { s with pending := rest }

/-- On an empty queue the internal time base advances by 1 µs and the expiries that are due join the queue (the model's
choice, log entry 2; the expiry times are those of R3, R109 and R166). -/
def Obligations.TickOnEmptyQueue : Prop :=
  ∀ s : State, s.pending = [] → ∃ t : State, step s = .next t ∧
    t = { s with time := (s.time + 1) % 2 ^ 64, pending := t.pending } ∧
    (∀ (i : Site) (k : TimerKind), k.expiry i ∈ t.pending ↔
      ∃ e d : Nat, (s.socket i).timer = .running k e d ∧ e ≤ t.time) ∧
    (∀ h : HeadId, Instr.travelWatchdogExpiry h ∈ t.pending ↔
      ∃ (x y : Nat) (px py : Fin 4) (e : Nat), s.link.get h = .travel x y px py (.running e) ∧ e ≤ t.time) ∧
    (∀ h : HeadId, Instr.actionWatchdogExpiry h ∈ t.pending ↔
      ∃ (k : Nozzle) (a : Action) (n e : Nat), s.link.get h = .act k a n (.running e) ∧ e ≤ t.time) ∧
    (Instr.positionWaitExpiry ∈ t.pending ↔ ∃ w : ArmWait, s.control.arming = some w ∧ w.expiry ≤ t.time)

/-- Every command goes on, but for a host write past the end of exchange memory, which faults with nothing written (section
8.1 gives 64 KiB; log entry 16). -/
def Obligations.CommandsGoOn : Prop :=
  ∀ (c : Instr) (s : State),
    (∀ (o : BitVec 16) (b : List Byte), c = .exchangeMemoryWrite o b →
      0x10000 < o.toNat + b.length → exec c s = .fault (.outsideExchangeMemory o.toNat b.length)) ∧
    ((∀ (o : BitVec 16) (b : List Byte), c = .exchangeMemoryWrite o b → o.toNat + b.length ≤ 0x10000) →
      ∃ t : State, exec c s = .next t)

/-- Events that find nothing to act on change nothing: tester messages for no site or in UNARMED (R1, R5), reports that match
no outstanding command (R111), drive reports in UNARMED (R126), and expiries of what does not run (R3; log entry 3). -/
def Obligations.EventsDiscarded : Prop :=
  ∀ s : State, s.atRest →
    (∀ (site : Nat) (up : Bool) (bin : Byte), 32 ≤ site ∨ s.control.state = .unarmed →
      exec (.ready site up) s = .next s ∧ exec (.endOfTest site bin) s = .next s) ∧
    (∀ h : HeadId, (∀ (x y : Nat) (px py : Fin 4) (w : Watchdog), s.link.get h ≠ .travel x y px py w) →
      exec (.arrived h) s = .next s ∧ exec (.travelWatchdogExpiry h) s = .next s) ∧
    (∀ (h : HeadId) (k : Nozzle) (v : Bool), (∀ (a : Action) (n : Nat) (w : Watchdog), s.link.get h ≠ .act k a n w) →
      exec (.actDone h k v) s = .next s) ∧
    (∀ h : HeadId, (∀ (k : Nozzle) (a : Action) (n : Nat) (w : Watchdog), s.link.get h ≠ .act k a n w) →
      exec (.actionWatchdogExpiry h) s = .next s) ∧
    (s.control.arming = none → exec .positionWaitExpiry s = .next s ∧
      ∀ (h : HeadId) (x y : Nat), exec (.position h x y) s = .next s) ∧
    (s.control.state = .unarmed → (∀ t : FaultTarget, exec (.driveFault t) s = .next s) ∧
      ∀ (h : HeadId) (k : Nozzle), exec (.vacuumLost h k) s = .next s) ∧
    (∀ (i : Site) (k : TimerKind), (∀ e d : Nat, (s.socket i).timer ≠ .running k e d) → exec (k.expiry i) s = .next s)

/-! ## The tester and the socket timers (chapter 1) -/

/-- START (R6): it is sent for a SEATED socket when the contact timer has expired and the ready flag is set, at either of the
two events that can bring this about; otherwise the socket waits; in HALTED it is withheld. That an expiry sent early moves the
time base up to the expiry time (`max s.time e`, the start time with it) is the model's choice (log entry 3). -/
def Obligations.StartRule : Prop :=
  ∀ (s : State) (i : Site) (u : Handle) (r : UnitRecord), s.atRest → s.control.state ≠ .unarmed →
    (s.socket i).state = .seated → (s.socket i).unit = some u → s.unit u = some r →
    let limit := (s.profile i).endOfTest
    let started (t : State) : State :=
      ((t.send (.start i r.serial)).setTest i { isOpen := true, serial := r.serial, late := .none }).setSocket i
        { s.socket i with
          state := .testing
          ready := true
          start := t.time
          timer := if limit = 0 then .stopped else .running .endOfTest (t.time + limit * 1000000) (limit * 1000000) }
    ((s.socket i).timer = .expired →
      (s.control.state ≠ .halted → exec (.ready i.val true) s = .next (started s)) ∧
      (s.control.state = .halted →
        exec (.ready i.val true) s = .next (s.setSocket i { s.socket i with ready := true }))) ∧
    (∀ e d : Nat, (s.socket i).timer = .running .contact e d →
      exec (.ready i.val true) s = .next (s.setSocket i { s.socket i with ready := true }) ∧
      ((s.socket i).ready = true → s.control.state ≠ .halted →
        exec (.contactExpiry i) s = .next (started { s with time := max s.time e })) ∧
      ((s.socket i).ready = false ∨ s.control.state = .halted →
        exec (.contactExpiry i) s =
          .next ({ s with time := max s.time e }.setSocket i { s.socket i with timer := .expired }))) ∧
    exec (.ready i.val false) s = .next (s.setSocket i { s.socket i with ready := false })

/-- READY outside SEATED and outside a drop (the other rows of R7): the flag alone; and at EMPTY the site's LOAD raised, kept
or withdrawn. The table of R19 itself: the wanted request, and what becomes of the pending one; a bound site is left alone.
And the request that enters the pending set (R66, R73), raised at a READY (R7), a release (R14) or a recovery (R16), or returned
at a dissolution (R20, R74): it leaves `requestEntered` as follow-up work, stated in Preemption, which is done within the
command, first in first out (the model's form, log entry 7; an expiry sent early, log entry 3). -/
def Obligations.ReadyAndRequests : Prop :=
  (∀ (s : State) (i : Site) (up : Bool), s.atRest → s.control.state ≠ .unarmed →
    (((s.socket i).state ≠ .seated ∧ (s.socket i).state ≠ .empty ∧ ((s.socket i).state = .testing → up = true)) →
      exec (.ready i.val up) s = .next (s.setSocket i { s.socket i with ready := up })) ∧
    ((s.socket i).state = .empty → (s.socket i).bound = none → s.noTakers →
      exec (.ready i.val up) s = .next ((s.setSocket i { s.socket i with ready := up }).setRequest i
        (if (s.socket i).stop = .none ∧ (s.siteCfg i).level ≠ 0 ∧ up = true then
          some { kind := .load, raised := ((s.request i).map Request.raised).getD s.time }
        else none)))) ∧
  ∀ (s : State) (i : Site),
    let k := s.socket i
    let level := (s.siteCfg i).level
    let wanted : Option RequestKind :=
      if k.state = .unloadReady then if k.stop = .none ∧ level ≠ 0 then some .swap else some .unload
      else if k.state = .empty ∧ k.stop = .none ∧ level ≠ 0 ∧ k.ready = true then some .load
      else none
    s.wanted i = wanted ∧
    ((s.socket i).bound ≠ none → s.updateRequests i = s) ∧
    ((s.socket i).bound = none →
      (s.updateRequests i).request i =
        wanted.map (fun q => { kind := q, raised := ((s.request i).map Request.raised).getD s.time }) ∧
      (∀ j : Site, j ≠ i → (s.updateRequests i).request j = s.request j) ∧
      (s.updateRequests i).sites = s.sites) ∧
    (∀ q : RequestKind, k.bound = none → s.request i = none → wanted = some q →
      s.updateRequests i = (s.setRequest i (some { kind := q, raised := s.time })).push (.entered i)) ∧
    (s.request i ≠ none ∨ wanted = none → (s.updateRequests i).agenda = s.agenda) ∧
    (∀ (h : HeadId) (j : Job) (legs kept : List Leg), (s.head h).job = some j → j.site = some i → k.bound = some h →
      wanted ≠ none → Task.entered i ∈ (s.dissolve h legs kept).agenda) ∧
    s.runTask (.entered i) = s.requestEntered i ∧
    (s.finish = .next (cascade Config.cascadeFuel s) ∧ ∀ (n : Nat) (x : Task) (rest : List Task),
      (s.agenda = x :: rest → cascade (n + 1) s = cascade n ({ s with agenda := rest }.runTask x)) ∧
      (s.agenda = [] → s.trailing = x :: rest → cascade (n + 1) s = cascade n ({ s with trailing := rest }.runTask x)) ∧
      (s.atRest → cascade n s = s)) ∧
    (∀ up : Bool, s.control.state ≠ .unarmed → k.state = .empty →
      exec (.ready i.val up) s = ((s.setSocket i { k with ready := up }).updateRequests i).finish) ∧
    ∀ e d : Nat,
      let now : State := { s with time := max s.time e }
      (k.state = .releasing → k.timer = .running .release e d →
        exec (.releaseExpiry i) s =
          ((now.setSocket i { k with state := .unloadReady, timer := .stopped }).updateRequests i).finish) ∧
      (k.state = .recovering → k.timer = .running .recovery e d → k.bound = none →
        exec (.recoveryExpiry i) s = ((now.setSocket i { k with
          state := match k.stop with
            | .none => .empty
            | .disable => .disabled
            | .lock => .locked
            | .retire => .retired
          stop := .none
          timer := .stopped }).updateRequests i).finish)

/-- The three closures of a test when no retirement follows: END (R9), READY down (R8), the watchdog (R10): the attempt and
the disposition (R33, R34), the test record, RELEASE and its timer, the count, and for the last two the notice and SITE. A
release delay of 0 expires directly after the event (R3), as its follow-up work (log entry 7): with no head taking work, that
is UNLOAD_READY and its request (R14, R19). That a watchdog expiry sent early moves the time base up to the expiry time is the
model's choice (log entry 3). -/
def Obligations.TestClosures : Prop :=
  ∀ (s : State) (i : Site) (u : Handle) (r : UnitRecord), s.atRest → s.control.state ≠ .unarmed →
    (s.socket i).state = .testing → (s.socket i).unit = some u → s.unit u = some r → s.request i = none →
    let alone : Prop := (s.profile i).release ≠ 0 ∨ (s.noTakers ∧ (s.socket i).bound = none)
    let k := s.socket i
    let d := (s.profile i).release * 1000
    let stays (bad : Nat) : Prop :=
      ¬((s.siteCfg i).threshold ≠ 0 ∧ (s.siteCfg i).threshold ≤ bad ∧ (k.stop = StopPending.none ∨ k.stop = StopPending.disable))
    let closed (t : State) (ready : Bool) (b : Fin 64) (ms : Nat) (late : LateMarker) (bad : Nat) : State :=
      let e := s.cfg.bins[b]
      let record : UnitRecord :=
        { r with
          attempts := r.attempts ++ [{ site := i, bin := b, duration := ms }]
          disposition := if e.retest = true ∧ r.attempts.length + 1 < e.limit then .retestWanted e.cls else .cls e.cls
          reasons := { r.reasons with
            timeoutSeen := r.reasons.timeoutSeen || late == .timeout
            dropSeen := r.reasons.dropSeen || late == .drop } }
      (((t.setUnit u (some record)).setTest i { s.test i with isOpen := false, late := late }).send (.release i)).setSocket i
        { k with state := .releasing, ready := ready, bad := bad, timer := .running .release (t.time + d) d }
    let ended (t : State) : State :=
      if (s.profile i).release ≠ 0 then t
      else (t.setSocket i { t.socket i with state := .unloadReady, timer := .stopped }).setRequest i
        (some { kind := if k.stop = StopPending.none ∧ (s.siteCfg i).level ≠ 0 then .swap else .unload, raised := t.time })
    let direct (t : State) : State := if (s.profile i).release = 0 then { t with trailing := .expiry i :: t.trailing } else t
    let leaves (c : Instr) (t : State) : Prop := exec c s = (direct t).finish ∧ (alone → exec c s = .next (ended t))
    let elapsed := min 4294967295 ((s.time - k.start) / 1000)
    let counted := min 15 (k.bad + 1)
    (∀ (bin : Byte) (b : Fin 64), b.val = (if bin.toNat ≤ 60 then bin.toNat else 63) →
      let e := s.cfg.bins[b]
      let bad := if e.clears = true then 0 else if e.counts = true then counted else k.bad
      stays bad → leaves (.endOfTest i.val bin) (closed s k.ready b elapsed .none bad)) ∧
    (stays counted → leaves (.ready i.val false) (((closed s false 62 elapsed .drop counted).raise
      { kind := .siteDropped, site := some i, serial := some r.serial, bin := some 62#8 }).setFlag .site)) ∧
    (∀ e limit : Nat, k.timer = .running .endOfTest e limit → stays counted →
      leaves (.eotWatchdogExpiry i)
        (((closed { s with time := max s.time e } k.ready 61 (limit / 1000) .timeout counted).raise
          { kind := .eotTimeout, site := some i, serial := some r.serial, bin := some 61#8 }).setFlag .site))

/-- The retirement check after each closure (R12): the site is marked, once, and the SITE_RETIRED notice, with the site, is
the first of the event: in the lowest-numbered FREE slot, or in the holding queue. The socket is RELEASING, or, with a
release delay of 0, UNLOAD_READY at once (R3). At a watchdog expiry sent early the time base is first moved up to the expiry
time (the model's choice, log entry 3). -/
def Obligations.ClosureRetires : Prop :=
  ∀ (s : State) (i : Site) (c : Instr) (bad now : Nat), s.atRest → s.noTakers → s.control.state ≠ .unarmed →
    (s.socket i).state = .testing →
    let k := s.socket i
    let counted := min 15 (k.bad + 1)
    let marked := (s.siteCfg i).threshold ≠ 0 ∧ (s.siteCfg i).threshold ≤ bad ∧ (k.stop = StopPending.none ∨ k.stop = StopPending.disable)
    ((∃ (bin : Byte) (b : Fin 64), c = .endOfTest i.val bin ∧ b.val = (if bin.toNat ≤ 60 then bin.toNat else 63) ∧
        bad = (if s.cfg.bins[b].clears = true then 0 else if s.cfg.bins[b].counts = true then counted else k.bad) ∧
        now = s.time) ∨
      (c = .ready i.val false ∧ bad = counted ∧ now = s.time) ∨
      (c = .eotWatchdogExpiry i ∧ bad = counted ∧ ∃ e d : Nat, k.timer = .running .endOfTest e d ∧ now = max s.time e)) →
    ∃ t : State, exec c s = .next t ∧ (t.socket i).bad = bad ∧
      (t.socket i).state = (if (s.profile i).release = 0 then .unloadReady else .releasing) ∧
      (t.socket i).stop = (if marked then .retire else k.stop) ∧
      (marked → t.regs.attention.getLsbD AttentionClass.site.bit = true ∧
        noticed { s with time := now } t { kind := .siteRetired, site := some i })

/-- An END for a site whose test is not open (R11): LATE_END once after a watchdog or a drop, STRAY_END otherwise; the socket
records, the unit table and the SITE flag are unchanged and nothing goes to the motion link. -/
def Obligations.LateAndStrayEnds : Prop :=
  ∀ (s : State) (i : Site) (bin : Byte), s.atRest → s.control.state ≠ .unarmed →
    (s.socket i).state ≠ .testing → (s.test i).isOpen = false →
    ∃ t : State, exec (.endOfTest i.val bin) s = .next t ∧
      ((s.test i).late ≠ .none → t = (s.raise
          { kind := .lateEnd, site := some i, serial := some (s.test i).serial, bin := some bin }).setTest i
          { s.test i with late := .none }) ∧
      ((s.test i).late = .none → t = s.raise { kind := .strayEnd, site := some i, bin := some bin }) ∧
      t.sites.sockets = s.sites.sockets ∧ t.units = s.units ∧
      t.regs.attention.getLsbD AttentionClass.site.bit = s.regs.attention.getLsbD AttentionClass.site.bit ∧
      ∀ m : Message, m ∈ t.outbox → m ∈ s.outbox ∨ m = .interrupt

/-- Release expiry (R14): UNLOAD_READY, and a SWAP or an UNLOAD raised at once by R19. Recovery expiry (R16): the stop-pending
target, which wants no request; else EMPTY, with a LOAD raised or kept when R19 calls for one and no head takes it, or with the
bound head that waits in SOCKET_WAIT placing at once, or with nothing more when the bound head is still on its way. That an
expiry sent early moves the time base up to the expiry time, from which raise times and watchdogs count, is the model's choice
(log entry 3). -/
def Obligations.ReleaseAndRecovery : Prop :=
  ∀ (s : State) (i : Site) (e d : Nat), s.atRest →
    let now : State := { s with time := max s.time e }
    ((s.socket i).state = .releasing → (s.socket i).timer = .running .release e d → s.noTakers →
      (s.socket i).bound = none → s.request i = none →
      exec (.releaseExpiry i) s =
        .next ((now.setSocket i { s.socket i with state := .unloadReady, timer := .stopped }).setRequest i
          (some { kind := if (s.socket i).stop = StopPending.none ∧ (s.siteCfg i).level ≠ 0 then .swap else .unload,
                  raised := max s.time e }))) ∧
    ((s.socket i).state = .recovering → (s.socket i).timer = .running .recovery e d →
      let k : Socket := { s.socket i with timer := .stopped }
      let target (stop : StopPending) : SocketState :=
        match stop with
        | .none => .empty
        | .disable => .disabled
        | .lock => .locked
        | .retire => .retired
      let out : State := now.setSocket i { k with state := target k.stop, stop := .none }
      ((s.socket i).stop ≠ .none →
        exec (.recoveryExpiry i) s = .next (if (s.socket i).bound = none then out.setRequest i none else out)) ∧
      ((s.socket i).stop = .none → (s.socket i).bound = none → s.noTakers →
        exec (.recoveryExpiry i) s = .next ((now.setSocket i { k with state := .empty }).setRequest i
          (if (s.siteCfg i).level ≠ 0 ∧ k.ready = true then
            some { kind := .load, raised := ((s.request i).map Request.raised).getD (max s.time e) }
          else none))) ∧
      (∀ h : HeadId, (s.socket i).stop = .none → (s.socket i).bound = some h →
        ((s.head h).state ≠ .socketWait → exec (.recoveryExpiry i) s = .next (now.setSocket i { k with state := .empty })) ∧
        (∀ (n : Nozzle) (l : Leg) (rest : List Leg), (s.head h).state = .socketWait → (s.head h).legs = l :: rest →
          l.location = .socket i → l.nozzle = some n → s.control.state ≠ .halted →
          exec (.recoveryExpiry i) s =
            .next ((((now.setSocket i { k with state := .empty }).send (.act h n .place)).setCommand h
              (.act n .place 1 (.running (max s.time e + s.deck.actionLimit * 1000)))).setHeadState h .acting))))

/-- The edits of one site at a RUN from HELD, in the order of R22: lockout (R23), REINSTATE (R25), JAM_CLEAR (R26), enable
(R24). JAM_CLEAR leaves RECOVERING with its timer, which a delay of 0 ends directly after the event (R3), and the latch and
the stop-pending of the other edits; a unit in the socket is LOST with cause MANUAL_CLEAR (R48), an empty one loses nothing.
-/
def Obligations.SiteEditTable : Prop :=
  ∀ (s : State) (i : Site) (reinstate jamClear : Bool),
    let k := s.socket i
    let t := s.editSite i reinstate jamClear
    let cycle : Prop := k.state = .recovering ∨ k.state = .seated ∨ k.state = .testing ∨ k.state = .releasing ∨
      k.state = .unloadReady ∨ (k.state = .jammed ∧ jamClear = false)
    ((s.siteCfg i).lockout = true → k.latch = false →
      (k.state = .disabled ∨ k.state = .retired ∨ k.state = .empty →
        t.socket i = { k with latch := true, state := .locked, stop := .none }) ∧
      (cycle → t.socket i = { k with latch := true, stop := .lock })) ∧
    (k.latch = true → ¬(k.state = .jammed ∧ jamClear = true) → t.socket i = k) ∧
    ((s.siteCfg i).lockout = false → k.latch = false → (s.siteCfg i).enable = false →
      (k.state = .disabled ∨ (k.state = .retired ∧ reinstate = false) → t.socket i = k) ∧
      (k.state = .empty → t.socket i = { k with state := .disabled }) ∧
      (k.state = .retired → reinstate = true → t.socket i = { k with state := .disabled, bad := 0 }) ∧
      (cycle → t.socket i = { k with stop := if k.stop = .none then .disable else k.stop })) ∧
    ((s.siteCfg i).lockout = false → k.latch = false → (s.siteCfg i).enable = true →
      (k.state = .empty ∨ (k.state = .retired ∧ reinstate = false) → t.socket i = k) ∧
      (k.state = .disabled → t.socket i = { k with state := .empty }) ∧
      (k.state = .retired → reinstate = true → t.socket i = { k with state := .empty, bad := 0 }) ∧
      (cycle → t.socket i = { k with stop := if k.stop = .disable then .none else k.stop })) ∧
    (k.state = .jammed → jamClear = true →
      let d := (s.profile i).recovery * 1000
      let stop : StopPending :=
        if k.latch = true then k.stop
        else if (s.siteCfg i).lockout = true then .lock
        else if (s.siteCfg i).enable = true then (if k.stop = .disable then .none else k.stop)
        else if k.stop = .none then .disable else k.stop
      t.socket i = { k with
        state := .recovering
        unit := none
        timer := .running .recovery (s.time + d) d
        latch := k.latch || (s.siteCfg i).lockout
        stop := stop } ∧
      t.trailing = (if d = 0 then .expiry i :: s.trailing else s.trailing) ∧
      (∀ u : Handle, k.unit = some u → t.unit u = none ∧ ∀ r : UnitRecord, s.unit u = some r → r.place = .site i →
        noticed s t { kind := .unitLost, site := some i, serial := some r.serial, cause := some .manualClear }) ∧
      (k.unit = none → t.units = s.units ∧ t.board = s.board ∧ t.mem = s.mem))

/-- Reports at a socket, no request pending. Place done of a unit placeable there: SEATED, CONTACT, the unit IN_SOCKET (R13,
R32, R37). Pick done: RECOVERING, the unit TESTED on the nozzle; a site bound to a SWAP stays bound (R15). A delay of 0 puts
the timer's expiry directly after the event (R3), where it does what the expiry command does. Pick or place failed: JAMMED,
unbound, the SOCKET_JAM notice, with the serial after a pick, and SITE; the units are checked again when the site was usable
(R17, R18, R36, R46). -/
def Obligations.SocketReports : Prop :=
  (∀ (s : State) (h : HeadId) (l : Leg) (k : Nozzle) (i : Site), l.location = .socket i → s.request i = none →
    let n := s.socket i
    let direct (d : Nat) (t : State) : State := if d = 0 then { t with trailing := .expiry i :: t.trailing } else t
    let jam (serial : Option Word) : State :=
      ((s.setSocket i { n with state := .jammed, timer := .stopped, bound := none }).raise
        { kind := .socketJam, site := some i, head := some h, nozzle := some k, serial := serial }).setFlag .site
    let jammed (serial : Option Word) (t : State) : Prop :=
      (n.stop = .none ∧ (s.siteCfg i).level ≠ 0 → t = (jam serial).reroute) ∧
      (n.stop ≠ .none ∨ (s.siteCfg i).level = 0 → t = jam serial)
    (∀ (u : Handle) (r : UnitRecord), l.kind = .place → n.state = .empty → l.unit = some u → s.slot h k = some u →
      s.unit u = some r → r.state = .fresh ∨ (r.state = .retest ∧ ∀ x ∈ r.attempts, x.site ≠ i) →
      let d := (s.profile i).contact * 1000
      s.report h l k true = direct d (
        (((s.setSlot h k none).setUnit u (some { r with state := .inSocket, place := .site i })).send (.contact i)).setSocket i
          { n with state := .seated, unit := some u, bound := none, timer := .running .contact (s.time + d) d })) ∧
    (∀ (u : Handle) (r : UnitRecord), l.kind = .pick → n.state = .unloadReady → n.unit = some u → s.slot h k = none →
      s.unit u = some r →
      let d := (s.profile i).recovery * 1000
      let swap : Prop := ∃ (g : HeadId) (j : Job), n.bound = some g ∧ (s.head g).job = some j ∧ j.kind = .swap
      let out (bound : Option HeadId) : State :=
        ((s.setSlot h k (some u)).setUnit u (some { r with state := .tested, place := .nozzle h k })).setSocket i
          { n with state := .recovering, unit := none, bound := bound, timer := .running .recovery (s.time + d) d }
      (swap → s.report h l k true = direct d (out n.bound)) ∧ (¬swap → s.report h l k true = direct d (out none))) ∧
    (l.kind = .pick → n.state = .unloadReady → jammed ((n.unit.bind s.unit).map UnitRecord.serial) (s.report h l k false)) ∧
    (l.kind = .place → n.state = .empty → jammed none (s.report h l k false))) ∧
  ∀ (s : State) (i : Site) (k : TimerKind) (e d : Nat), (s.socket i).timer = .running k e d →
    exec (k.expiry i) s = (s.runTask (.expiry i)).finish

/-! ## Reports at pockets (chapters 2 and 7) -/

/-- What a pocket result leaves in its frame (R133 to R135, R138 to R142): the pockets done count, and the frame going on,
or SPENT, with its reason, TRAY, and its place on the activation list: by `complete` while it is ACTIVE, but not in HALTED
(R145, R182; log entry 25), and with no pocket left reserved while it is in CLOSE. -/
def resultTaken (s t : State) (f : FrameId) (i : Nat) (complete : Prop) : Prop :=
  let base := 0x4000 + f.val * 0x1000
  let r := s.frame f
  let marks := r.marks.set i .done
  let goesOn : Prop := t.frame f = { r with marks := marks, done := r.done + 1 } ∧ t.trays.inputs = s.trays.inputs ∧
    readWord t.mem base = readWord s.mem base ∧ readByte t.mem (base + 0x0C) = 0#8
  let spent (code : Byte) : Prop := t.frame f = { r with state := .spent, marks := [], done := r.done + 1 } ∧
    t.trays.inputs = s.trays.inputs.filter (fun g => g != f) ∧ t.regs.attention.getLsbD AttentionClass.tray.bit = true ∧
    readWord t.mem base = 4#32 ∧ readByte t.mem (base + 0x0C) = code
  readByte t.mem (base + 0x0D) = BitVec.ofNat 8 (r.done + 1) ∧
  (∀ g : FrameId, g ≠ f → t.frame g = s.frame g) ∧
  (r.state = .active → (s.control.state ≠ .halted → complete → spent 1#8) ∧ (s.control.state = .halted ∨ ¬complete → goesOn)) ∧
  (r.state = .close →
    ((∃ (j : Nat) (g : HeadId), marks[j]? = some (.reserved g)) → goesOn) ∧
    ((∀ (j : Nat) (g : HeadId), marks[j]? ≠ some (.reserved g)) → spent 2#8))

/-- A pick reported at an input pocket into an EMPTY nozzle. Done (R30, R54, R65, R133): the unit record at the lowest free
handle, the pick order counter, the nozzle slot, and the PICKED result with the serial; in DRAINING with no usable site the
new unit goes to the untested class (R47; usable by log entry 22). Failed (R134): MISSING, and no unit, no head and no
notice changes. After either the count and the completion test (R135, R140), which HALTED does not make for an ACTIVE frame
(log entry 25). -/
def Obligations.InputReports : Prop :=
  ∀ (s : State) (h : HeadId) (k : Nozzle) (l : Leg) (f : FrameId) (c : FrameCopy) (n st : Fin 2) (i : Nat),
    l.location = .input st i → l.frame = some f → (s.frame f).copy = some c → c.station = .input n → i < 128 →
    i < (s.frame f).marks.length →
    let a := 0x4000 + f.val * 0x1000 + 0x240 + 24 * i
    let complete : Prop := ∀ j : Nat, j < c.rows * c.columns → c.occupancy.getLsbD j = true →
      j = i ∨ (s.frame f).marks.getD j .isOpen = .done
    (∀ u : Handle, s.slot h k = none → s.unit u = none → (∀ v : Handle, v < u → s.unit v ≠ none) →
      let serial := if c.explicit = true then c.serials.getD i 0#32 else c.baseSerial + BitVec.ofNat 32 i
      let t := s.report h l k true
      let usable (x : Site) : Prop := ((s.socket x).state ≠ .disabled ∧ (s.socket x).state ≠ .locked ∧
        (s.socket x).state ≠ .retired ∧ (s.socket x).state ≠ .jammed) ∧ (s.socket x).stop = .none ∧ (s.siteCfg x).level ≠ 0
      let fresh : UnitRecord :=
        { serial := serial
          station := n
          tray := c.tray
          pocket := i
          pickOrder := s.units.counter
          state := .fresh
          place := .nozzle h k
          attempts := []
          disposition := .absent
          reasons := ⟨false, false, false, false, false⟩ }
      t.units.counter = s.units.counter + 1#32 ∧ t.slot h k = some u ∧
      (s.control.state ≠ .draining ∨ (∃ x : Site, usable x) → t.unit u = some fresh) ∧
      (s.control.state = .draining → (∀ x : Site, ¬usable x) →
        (∀ x ∈ (s.head h).legs, x.kind = .place → x.unit ≠ some u) →
        t.unit u = some { fresh with
          state := .tested, disposition := .cls s.deck.untestedClass, reasons := ⟨false, false, true, false, false⟩ }) ∧
      readWord t.mem a = 1#32 ∧ readWord t.mem (a + 4) = serial ∧
      (∀ j : Nat, 8 ≤ j → j < 24 → readByte t.mem (a + j) = 0#8) ∧ resultTaken s t f i complete) ∧
    (let t := s.report h l k false;
      t.units = s.units ∧ t.planner = s.planner ∧ t.board = s.board ∧ readWord t.mem a = 2#32 ∧
      (∀ j : Nat, 4 ≤ j → j < 24 → readByte t.mem (a + j) = 0#8) ∧ resultTaken s t f i complete)

/-- A place reported at an output pocket. Done, of a TESTED unit (R49, R138, R147): the FILLED result and the time of the
report, byte by byte, the record freed and the slot EMPTY. Failed (R32, R117, R139): BLOCKED, the POCKET_BLOCKED notice, and
the unit as it was on its nozzle. After either the count and the completion test (R140, R141), which HALTED does not make
for an ACTIVE frame (log entry 25). The bits that section 8.3 leaves unnamed are the model's (log entry 24). -/
def Obligations.OutputReports : Prop :=
  ∀ (s : State) (h : HeadId) (k : Nozzle) (l : Leg) (f : FrameId) (n : Fin 8) (i : Nat) (u : Handle) (r : UnitRecord)
    (cls : Fin 8) (c : FrameCopy) (m : Fin 8), l.location = .output n i → l.kind = .place → l.frame = some f →
    l.unit = some u → s.slot h k = some u → s.unit u = some r → r.state = .tested → r.disposition = .cls cls →
    r.attempts.length ≤ 3 → r.pocket < 128 → i < 128 → (s.frame f).copy = some c → c.station = .output m →
    i < (s.frame f).marks.length →
    let base := 0x4000 + f.val * 0x1000
    let a := base + 0x240 + 24 * i
    let complete : Prop := ∀ j : Nat, j < c.rows * c.columns →
      c.occupancy.getLsbD j = true ∨ j = i ∨ (s.frame f).marks.getD j .isOpen = .done
    (let t := s.report h l k true;
      let site (j : Nat) : Nat := ((r.attempts[j]?).map fun x => x.site.val).getD 31
      let attempt (j : Nat) : Word :=
        ((r.attempts[j]?).map fun x => BitVec.ofNat 32 (min x.duration 16777215 + x.bin.val * 0x1000000)).getD 0xFFFFFFFF#32
      t.unit u = none ∧ t.slot h k = none ∧
      readWord t.mem (base + 0x40 + 4 * i) = BitVec.ofNat 32 (s.time / 1000) ∧
      readByte t.mem a = BitVec.ofNat 8 (3 + 8 * cls.val) ∧
      readByte t.mem (a + 1) = BitVec.ofNat 8 (r.reasons.stripFull.toNat + 2 * r.reasons.noSite.toNat
        + 4 * r.reasons.untested.toNat + 8 * r.reasons.timeoutSeen.toNat + 16 * r.reasons.dropSeen.toNat
        + 32 * r.attempts.length) ∧
      readByte t.mem (a + 2) = BitVec.ofNat 8 (r.pocket + 128 * r.station.val) ∧
      readByte t.mem (a + 3) = BitVec.ofNat 8 ((r.attempts.getLast?.map fun x => x.bin.val).getD 0xFF) ∧
      readWord t.mem (a + 4) = r.serial ∧ readHalf t.mem (a + 8) = r.tray ∧
      readHalf t.mem (a + 10) = BitVec.ofNat 16 (site 0 + 32 * site 1 + 1024 * site 2) ∧
      readWord t.mem (a + 12) = attempt 0 ∧ readWord t.mem (a + 16) = attempt 1 ∧ readWord t.mem (a + 20) = attempt 2 ∧
      resultTaken s t f i complete) ∧
    (let t := s.report h l k false;
      t.units = s.units ∧ t.planner = s.planner ∧ readWord t.mem a = 4#32 ∧
      (∀ j : Nat, 4 ≤ j → j < 24 → readByte t.mem (a + j) = 0#8) ∧
      noticed s t { kind := .pocketBlocked, head := some h, nozzle := some k, station := some (.output n), pocket := some i,
                    serial := some r.serial } ∧ resultTaken s t f i complete)

/-- Reports at a strip pocket (R32, R40, R42, R44, R45, R48, R117). A place done: the unit QUEUED there and its entry at the tail
of the retest list. A place failed: the pocket blocked, its reservation gone, POCKET_BLOCKED. A pick done: the entry gone, the
unit RETEST on the nozzle, or, with no usable site left outside its attempts, TESTED with its fallback class and NO_SITE. A
pick failed: the unit LOST with its notice, the entry gone, the pocket blocked. And the checks of R46 and R47 for a unit on a
nozzle that no place leg of a bound job names: stranded, untested in DRAINING, or left as it is. That a jam-cleared site
counts as usable while it recovers is the model's choice (log entry 22). -/
def Obligations.StripReports : Prop :=
  let room (s : State) (r : UnitRecord) : Prop := ∃ i : Site, ((s.socket i).state ≠ .disabled ∧ (s.socket i).state ≠ .locked ∧
    (s.socket i).state ≠ .retired ∧ (s.socket i).state ≠ .jammed) ∧ (s.socket i).stop = .none ∧
    (s.siteCfg i).level ≠ 0 ∧ ∀ x ∈ r.attempts, x.site ≠ i
  let noSite (r : UnitRecord) (c : Fin 8) : UnitRecord :=
    { r with state := .tested, disposition := .cls c, reasons := { r.reasons with noSite := true } }
  (∀ (s : State) (h : HeadId) (k : Nozzle) (l : Leg) (p : Fin 16) (u : Handle) (r : UnitRecord) (c : Fin 8),
    l.location = .strip p → s.unit u = some r → r.disposition = .retestWanted c →
    let pocket := s.stripPocket p
    let others := s.units.retest.filter (fun e => e.pocket != p)
    (l.kind = .place → l.unit = some u → s.slot h k = some u → r.state = .tested → pocket.content = none →
      s.report h l k true =
        ((((s.setSlot h k none).setUnit u (some { r with state := .queued, place := .strip p })).setStrip p
          { pocket with content := some u, reservation := none }).setRetest
            (s.units.retest ++ [{ unit := u, pocket := p, claim := none }])).push .selectIdle) ∧
    (l.kind = .place → s.slot h k = some u → pocket.content = none →
      s.report h l k false = (s.setStrip p { content := none, reservation := none, blocked := true }).raise
        { kind := .pocketBlocked, head := some h, nozzle := some k, station := some .strip, pocket := some p.val,
          serial := some r.serial }) ∧
    (l.kind = .pick → s.slot h k = none → pocket.content = some u →
      let t := s.report h l k true
      t.slot h k = some u ∧ t.units.retest = others ∧
      t.stripPocket p = { pocket with content := none, reservation := none } ∧
      (room s r → t.unit u = some { r with state := .retest, place := .nozzle h k }) ∧
      (¬room s r → t.unit u = some { noSite r c with place := .nozzle h k })) ∧
    (l.kind = .pick → pocket.content = some u → r.place = .strip p →
      let t := s.report h l k false
      t.unit u = none ∧ t.units.retest = others ∧
      t.stripPocket p = { content := none, reservation := none, blocked := true } ∧
      noticed s t { kind := .unitLost, station := some .strip, pocket := some p.val, serial := some r.serial,
                    cause := some .stripPickFailed })) ∧
  ∀ (s : State) (h : HeadId) (k : Nozzle) (u : Handle) (r : UnitRecord), s.control.state ≠ .halted →
    s.control.state ≠ .unarmed → s.slot h k = some u → (∀ (g : HeadId) (j : Nozzle), s.slot g j = some u → g = h) →
    s.unit u = some r →
    ((s.head h).job = none ∨ ∀ l ∈ (s.head h).legs, l.kind = .place → l.unit ≠ some u) →
    let usable (i : Site) : Prop := ((s.socket i).state ≠ .disabled ∧ (s.socket i).state ≠ .locked ∧
      (s.socket i).state ≠ .retired ∧ (s.socket i).state ≠ .jammed) ∧ (s.socket i).stop = .none ∧ (s.siteCfg i).level ≠ 0
    let untested : UnitRecord :=
      { r with state := .tested, disposition := .cls s.deck.untestedClass, reasons := { r.reasons with untested := true } }
    (r.state = .retest → ¬room s r → ∀ c : Fin 8, r.disposition = .retestWanted c →
      s.reroute.unit u = some (noSite r c) ∧ Task.selectHead h ∈ s.reroute.agenda) ∧
    (r.state = .fresh → s.control.state = .draining → (∀ i : Site, ¬usable i) →
      s.reroute.unit u = some untested ∧ Task.selectHead h ∈ s.reroute.agenda) ∧
    (r.state = .retest ∧ room s r ∨ r.state = .fresh ∧ (s.control.state ≠ .draining ∨ ∃ i : Site, usable i) ∨
      r.state = .inSocket ∨ r.state = .tested ∨ r.state = .queued → s.reroute.unit u = some r)

/-! ## Heads and the motion link (chapters 3 and 6) -/

/-- A matched ARRIVED outside HALTED (R55, R64, R84, R85, R89, R113, R114, R118): the reservation becomes the target point,
the other head's waiting leg is examined again (`regrant`, stated with the rail arbiter), the position becomes the target;
then the action of the leg is sent, or the head waits for its socket. A place leg whose unit has gone, or, in HOLDING, whose
socket is not EMPTY, sends no ACT: taken in HOLDING, its job is dissolved. A YIELD job ends: IDLE and selection in RUN and
DRAINING, STOPPED in HOLDING. -/
def Obligations.ArrivalTable : Prop :=
  ∀ (s : State) (h : HeadId) (x y : Nat) (px py : Fin 4) (w : Watchdog) (l : Leg) (rest : List Leg),
    s.atRest → s.link.get h = .travel x y px py w → s.control.state ≠ .halted →
    (s.head h).state ≠ .stopped → (s.head h).legs = l :: rest →
    let there := (((s.setCommand h .empty).setReserved h (some ⟨x, x⟩)).regrant h.other).setHead h { s.head h with x := x, y := y }
    let acting (k : Nozzle) (a : Action) : State :=
      ((there.send (.act h k a)).setCommand h (.act k a 1 (.running (s.time + s.deck.actionLimit * 1000)))).setHeadState h
        .acting
    (∀ k : Nozzle, l.nozzle = some k →
      (l.kind = .pick → exec (.arrived h) s = .next (acting k .pick)) ∧
      (l.kind = .place → s.slot h k = l.unit → (∀ i : Site, l.location = .socket i → (s.socket i).state = .empty) →
        exec (.arrived h) s = .next (acting k .place)) ∧
      (∀ i : Site, l.kind = .place → s.slot h k = l.unit → l.location = .socket i → (s.socket i).state ≠ .empty →
        s.working = true → exec (.arrived h) s = .next (there.setHeadState h .socketWait)) ∧
      (l.kind = .place → s.control.state = .holding →
        s.slot h k ≠ l.unit ∨ (∃ i : Site, l.location = .socket i ∧ (s.socket i).state ≠ .empty) →
        ∃ t : State, exec (.arrived h) s = .next t ∧ (t.head h).state = .stopped ∧ (t.head h).x = x ∧ (t.head h).y = y ∧
          Dissolved h s t ∧ t.link = s.link.set h .empty ∧
          ∃ more : List Message, t.outbox = s.outbox ++ more ∧ ∀ m ∈ more, m = .interrupt)) ∧
    (l.kind = .travel →
      (s.working = true → exec (.arrived h) s = ((((there.setHead h { there.head h with job := none, legs := [] }).reroute).setHeadState
        h .idle).select h).finish) ∧
      (s.control.state = .holding → ∃ t : State, exec (.arrived h) s = .next t ∧
        t.head h = { s.head h with state := .stopped, x := x, y := y, job := none, legs := [] } ∧
        t.rail.reserved.get h = some ⟨x, x⟩))

/-- The judgement of an attempt outside HALTED (R116): a failed one that is not the last is sent again at once with the full
action limit; a good one, and a failed last one, empties the command record, is reported to the owners (R117), and the leg's
end follows. There the job goes on: FEED by the stop test and its next leg, the supply marker evaluated before the leg's
claim (R59; log entry 12), SWAP to its place leg after a pick done (R61), SORT by its next choice (R63); or it ends, IDLE
with selection (R60 to R64), after the check of its units, an order that is the model's choice (log entry 27); in HOLDING it is
dissolved and the head STOPPED, which may complete the hold (R75, R177). -/
def Obligations.ActionJudged : Prop :=
  (∀ (s : State) (h : HeadId) (k : Nozzle) (a : Action) (n : Nat) (w : Watchdog) (l : Leg) (rest : List Leg) (vacuum : Bool),
    s.atRest → s.link.get h = .act k a n w → s.control.state ≠ .halted → (s.head h).legs = l :: rest →
    let good := if a = .pick then vacuum else !vacuum
    let limit := if a = .pick then s.deck.pickRetries else s.deck.placeRetries
    (good = false → n ≤ limit →
      exec (.actDone h k vacuum) s =
        .next ((s.send (.act h k a)).setCommand h (.act k a (n + 1) (.running (s.time + s.deck.actionLimit * 1000))))) ∧
    (good = true ∨ limit < n →
      exec (.actDone h k vacuum) s =
        ((((s.setCommand h .empty).report h l k good).holdTest).push (.legEnd h good)).finish)) ∧
  ∀ (s : State) (h : HeadId) (ok : Bool),
    let hd := s.head h
    s.runTask (.legEnd h ok) = s.legEnded h ok ∧ (hd.job = none → s.legEnded h ok = s) ∧
    ∀ j : Job, hd.job = some j →
      let done : Job := { j with legsDone := j.legsDone + 1 }
      let there := s.setHead h { hd with job := some done, legs := hd.legs.tail }
      let ends (t : State) : State :=
        (((t.setHead h { t.head h with job := none, legs := [] }).reroute).setHeadState h .idle).select h
      let next (t : State) (l : Leg) : State := (t.setHead h { t.head h with legs := [l] }).submit h .railWait
      let working : Prop := s.control.state = .run ∨ s.control.state = .draining
      let twoEmpty : Prop := ∃ a b : Nozzle, a ≠ b ∧ s.slot h a = none ∧ s.slot h b = none
      let supplied := there.evaluateSupply
      (working → j.kind = .feed →
        (¬twoEmpty ∨ 4 ≤ done.legsDone → s.legEnded h ok = ends there) ∧
        (twoEmpty → done.legsDone < 4 →
          (∀ (t : State) (l : Leg), supplied.feedLeg h = some (t, l) → s.legEnded h ok = next t l) ∧
          (supplied.feedLeg h = none → s.legEnded h ok = ends supplied))) ∧
      (working → j.kind = .swap →
        (∀ (l : Leg) (rest : List Leg), hd.legs.tail = l :: rest →
          (ok = true → s.legEnded h ok = next there l) ∧ (ok = false → s.legEnded h ok = ends there)) ∧
        (hd.legs.tail = [] → s.legEnded h ok = ends there)) ∧
      (working → j.kind = .sort → s.legEnded h ok = there.sortNext h done) ∧
      (working → j.kind = .load ∨ j.kind = .unload ∨ j.kind = .yield → s.legEnded h ok = ends there) ∧
      (s.control.state = .holding →
        let gone := (there.dissolve h hd.legs.tail []).setHeadState h .stopped
        let quiet : Prop := (s.head h.other).state = .stopped ∧ s.link = ⟨.empty, .empty⟩
        (quiet → s.legEnded h ok =
          { gone with control := { s.control with state := .held, holdAck := true } }.setFlag .state) ∧
        (¬quiet → s.legEnded h ok = gone))

/-- Reports for commands that a halt found outstanding (R124): ARRIVED moves the position, and the reservation keeps its swept
interval; that the kept leg is then dropped is the model's choice (log entry 11). A place done at an EMPTY socket of a unit
placeable there seats the unit, CONTACT is sent (R13, R32, R54), and no leg follows. -/
def Obligations.HaltedReports : Prop :=
  ∀ (s : State) (h : HeadId), s.atRest → s.control.state = .halted →
    (∀ (x y : Nat) (px py : Fin 4) (w : Watchdog), s.link.get h = .travel x y px py w →
      exec (.arrived h) s = .next ((s.setCommand h .empty).setHead h { s.head h with x := x, y := y, legs := [] })) ∧
    (∀ (k : Nozzle) (n : Nat) (w : Watchdog) (l : Leg) (i : Site) (u : Handle) (r : UnitRecord),
      s.link.get h = .act k .place n w → (s.head h).legs = [l] → l.kind = .place → l.location = .socket i →
      l.unit = some u → (s.socket i).state = .empty → s.slot h k = some u → s.unit u = some r →
      r.state = .fresh ∨ (r.state = .retest ∧ ∀ x ∈ r.attempts, x.site ≠ i) → s.request i = none →
      (s.profile i).contact ≠ 0 →
      let d := (s.profile i).contact * 1000
      let slots := (s.head h).slots.set k none
      exec (.actDone h k false) s =
        .next (((((s.setCommand h .empty).setHead h
            { s.head h with
              slots := slots
              load := if slots[(0 : Fin 4)].isSome || slots[(1 : Fin 4)].isSome || slots[(2 : Fin 4)].isSome
                  || slots[(3 : Fin 4)].isSome then .loaded else .empty
              legs := [] }).setUnit u (some { r with state := .inSocket, place := .site i })).send (.contact i)).setSocket i
          { s.socket i with
            state := .seated
            unit := some u
            bound := none
            timer := .running .contact (s.time + d) d }))

/-- VACUUM_LOST (R121, R122, R178): no effect on an EMPTY slot or during an action at the nozzle; otherwise the unit is LOST with
its notice, the record freed and the slot EMPTY (R48), and in RUN and DRAINING the automatic HOLD is then taken, which completes
at once exactly when nothing is in flight (R177). The head of the DRAINING clause holds work, so that its unit's freeing does
not complete the drain first (log entry 10). -/
def Obligations.VacuumLost : Prop :=
  ∀ (s : State) (h : HeadId) (k : Nozzle), s.atRest →
    (s.slot h k = none ∨ (∃ (a : Action) (n : Nat) (w : Watchdog), s.link.get h = .act k a n w) →
      exec (.vacuumLost h k) s = .next s) ∧
    (∀ (u : Handle) (r : UnitRecord), s.slot h k = some u → s.unit u = some r → r.place = .nozzle h k →
      (∀ (a : Action) (n : Nat) (w : Watchdog), s.link.get h ≠ .act k a n w) →
      let lost : Notice :=
        { kind := .unitLost, head := some h, nozzle := some k, serial := some r.serial, cause := some .vacuumLost }
      let gone : State := ((s.raise lost).setSlot h k none).setUnit u none
      (s.control.state = .held ∨ s.control.state = .holding ∨ s.control.state = .drained ∨ s.control.state = .halted →
        exec (.vacuumLost h k) s = .next gone) ∧
      (s.control.state = .run ∨ (s.control.state = .draining ∧ (s.head h).state ≠ .idle) →
        ∃ t : State, exec (.vacuumLost h k) s = .next t ∧ t.unit u = none ∧ t.slot h k = none ∧
          (t.head h).load = (gone.head h).load ∧ noticed s t lost ∧ HeldBack gone t ∧ t.regs.result = s.regs.result ∧
          t.regs.attention.getLsbD AttentionClass.state.bit = true))

/-- What every entry to HALTED leaves (R76, R93, R124, R181): each job dissolved, its bound request returned to the pending
set (R20), and of the legs only the one whose command is outstanding kept (log entry 11). -/
def haltedFrom (s t : State) : Prop :=
  t.control = { s.control with state := .halted, holdAck := false } ∧
  t.regs.attention.getLsbD AttentionClass.state.bit = true ∧
  t.regs.attention.getLsbD AttentionClass.notice.bit = true ∧
  (∃ l : List Message, t.outbox = s.outbox ++ l ∧ .stopAll ∈ l ∧ ∀ m ∈ l, m = .stopAll ∨ m = .interrupt) ∧
  (∀ h : HeadId, (t.head h).state = .stopped ∧ (t.head h).job = none ∧ (t.head h).slots = (s.head h).slots ∧
    t.rail.waiting.get h = none ∧ t.rail.reserved.get h = s.rail.reserved.get h ∧
    t.link.get h = (s.link.get h).stopDog ∧
    (s.link.get h = .empty → Dissolved h s t) ∧
    (s.link.get h ≠ .empty → (t.head h).legs = (s.head h).legs.take 1) ∧
    ∀ (j : Job) (i : Site), (s.head h).job = some j → j.site = some i → (s.socket i).bound = some h →
      (t.socket i).bound = none ∧
        t.request i = ((s.wanted i).map fun k => { kind := k, raised := j.raised }).or (s.request i))

/-- A notice with the place of a leg: the site of a socket, the station and pocket of a pocket, neither for a clearance point
(R119, R120). -/
def placedAt (n : Notice) (legs : List Leg) : Notice :=
  match legs.head?.map Leg.location with
  | some (.input st i) => { n with station := some (.input st), pocket := some i }
  | some (.output st i) => { n with station := some (.output st), pocket := some i }
  | some (.strip p) => { n with station := some .strip, pocket := some p.val }
  | some (.socket i) => { n with site := some i }
  | some (.clearance _) | none => n

/-- The three causes of a halt (R119, R120, R123, R181), each with its notice and the notice's fields, and what the entry to
HALTED does; in HALTED a DRIVE_FAULT raises its notice and does nothing more (R123, R124). That a watchdog expiry sent early
moves the time base up to the expiry time is the model's choice (log entry 3). -/
def Obligations.HaltRule : Prop :=
  ∀ s : State, s.atRest →
    let fault (f : FaultTarget) : Notice := match f with
      | .head h => { kind := .driveFault, head := some h }
      | .site i => { kind := .driveFault, site := some i }
    let serial (u : Option Handle) : Option Word := (u.bind s.unit).map UnitRecord.serial
    (∀ f : FaultTarget, s.control.state ≠ .unarmed → s.control.state ≠ .halted →
      ∃ t : State, exec (.driveFault f) s = .next t ∧ haltedFrom s t ∧ noticed s t (fault f)) ∧
    (s.control.state = .run ∨ s.control.state = .draining ∨ s.control.state = .holding →
      (∀ (h : HeadId) (x y : Nat) (px py : Fin 4) (e : Nat), s.link.get h = .travel x y px py (.running e) →
        ∃ t : State, exec (.travelWatchdogExpiry h) s = .next t ∧ haltedFrom s t ∧ t.time = max s.time e ∧
          noticed { s with time := max s.time e } t (placedAt { kind := .motionTimeout, head := some h } (s.head h).legs)) ∧
      (∀ (h : HeadId) (k : Nozzle) (a : Action) (n e : Nat), s.link.get h = .act k a n (.running e) →
        ∃ t : State, exec (.actionWatchdogExpiry h) s = .next t ∧ haltedFrom s t ∧ t.time = max s.time e ∧
          noticed { s with time := max s.time e } t (placedAt
            { kind := .actionTimeout
              head := some h
              nozzle := some k
              serial := match a, (s.head h).legs.head?.map Leg.location with
                | .place, _ => serial (s.slot h k)
                | .pick, some (.socket i) => serial (s.socket i).unit
                | .pick, some (.strip p) => serial (s.stripPocket p).content
                | .pick, _ => none } (s.head h).legs))) ∧
    (s.control.state = .halted → ∀ f : FaultTarget,
      exec (.driveFault f) s = .next (s.raise (fault f)))

/-! ## Frames validated (R129 to R131) -/

/-- A frame is REJECTED (R129): the reason with a count of 0, the state word, TRAY, and nothing else of memory; the frame's record
with it, but in UNARMED, where there is none (log entry 20). -/
def frameRejected (s t : State) (f : FrameId) (code : Word) : Prop :=
  let base := 0x4000 + f.val * 0x1000
  t.trays.inputs = s.trays.inputs ∧ (∀ k : FrameId, k ≠ f → t.frame k = s.frame k) ∧
  (s.control.state = .unarmed → t.frame f = s.frame f) ∧
  (s.control.state ≠ .unarmed → t.frame f = { state := .rejected, copy := none, marks := [], done := 0 }) ∧
  readWord t.mem base = 5#32 ∧ readWord t.mem (base + 0x0C) = code ∧ t.regs.attention = s.regs.attention ||| 1#6 ∧
  ∀ a : Nat, ¬(base ≤ a ∧ a < base + 4) → ¬(base + 0x0C ≤ a ∧ a < base + 0x10) → readByte t.mem a = readByte s.mem a

/-- A frame is activated at a station (R130): the copy of the host fields, and everything from 0x240, or for an output frame from
0x040, to the end of the results cleared. ACTIVE with OPEN marks; or SPENT at once, with reason COMPLETE and TRAY (R142). -/
def frameActivated (s t : State) (f : FrameId) (st : Station) (spent : Bool) : Prop :=
  let base := 0x4000 + f.val * 0x1000
  let rows := (readByte s.mem (base + 5)).toNat
  let columns := (readByte s.mem (base + 6)).toNat
  let explicit := readByte s.mem (base + 7) == 1#8
  let lo := match st with
    | .input _ => 0x240
    | _ => 0x40
  ∃ c : FrameCopy, c.station = st ∧ c.tray = readHalf s.mem (base + 8) ∧ c.rows = rows ∧ c.columns = columns ∧
    c.explicit = explicit ∧ c.baseSerial = readWord s.mem (base + 0x10) ∧
    (∀ i : Nat, i < 128 → c.occupancy.getLsbD i = (readByte s.mem (base + 0x20 + i / 8)).getLsbD (i % 8)) ∧
    ((∃ n : Fin 2, st = .input n) → explicit = true →
      ∀ i : Nat, i < rows * columns → c.serials[i]? = some (readWord s.mem (base + 0x40 + 4 * i))) ∧
    (spent = false → t.regs = s.regs ∧ t.outbox = s.outbox ∧ readWord t.mem base = 2#32 ∧ readWord t.mem (base + 0x0C) = 0#32 ∧
      t.frame f = { state := .active, copy := some c, marks := List.replicate (rows * columns) .isOpen, done := 0 }) ∧
    (spent = true → t.regs.attention = s.regs.attention ||| 1#6 ∧ readWord t.mem base = 4#32 ∧
      readWord t.mem (base + 0x0C) = 1#32 ∧ t.frame f = { state := .spent, copy := some c, marks := [], done := 0 }) ∧
    (∀ a : Nat, base + lo ≤ a → a < base + 0xE40 → readByte t.mem a = 0#8) ∧
    (∀ a : Nat, ¬(base ≤ a ∧ a < base + 4) → ¬(base + 0x0C ≤ a ∧ a < base + 0x10) →
      ¬(base + lo ≤ a ∧ a < base + 0xE40) → readByte t.mem a = readByte s.mem a) ∧
    ∀ k : FrameId, k ≠ f → t.frame k = s.frame k

/-- A frame in POSTED is judged, the device in a state that takes frames: the checks 2 to 6 of R129 in order, and the activation
of R130, with the activation list (R131, R142). -/
def frameJudged (s t : State) (f : FrameId) : Prop :=
  let base := 0x4000 + f.val * 0x1000
  let rows := (readByte s.mem (base + 5)).toNat
  let columns := (readByte s.mem (base + 6)).toNat
  let station := (readByte s.mem (base + 4)).toNat
  let flag (i : Nat) : Bool := (readByte s.mem (base + 0x20 + i / 8)).getLsbD (i % 8)
  (10 ≤ station → frameRejected s t f 4#32) ∧
  ∀ st : Fin 10, station = st.val →
    let g := s.deck.stations[st.val]
    let good : Prop := 1 ≤ rows ∧ rows ≤ 8 ∧ 1 ≤ columns ∧ columns ≤ 16 ∧ rows ≤ g.maxRows ∧ columns ≤ g.maxColumns
    let busy : Prop := ∃ k : FrameId, k ≠ f ∧ ((s.frame k).state = .active ∨ (s.frame k).state = .close) ∧
      ((s.frame k).copy.map fun c => c.station.code) = some st.val
    (¬good → frameRejected s t f 5#32) ∧ (good → busy → frameRejected s t f 6#32) ∧
    (good → ¬busy →
      (∀ n : Fin 2, n.val = st.val →
        ((∀ i : Nat, i < rows * columns → flag i = false) → frameRejected s t f 8#32) ∧
        ((∃ i : Nat, i < rows * columns ∧ flag i = true) →
          frameActivated s t f (.input n) false ∧ t.trays.inputs = s.trays.inputs ++ [f])) ∧
      ∀ n : Fin 8, n.val + 2 = st.val →
        ((∀ c : Fin 8, n ∉ s.cfg.classes[c]) → frameRejected s t f 7#32) ∧
        ((∃ c : Fin 8, n ∈ s.cfg.classes[c]) →
          ((∃ i : Nat, i < rows * columns ∧ flag i = false) →
            frameActivated s t f (.output n) false ∧ t.trays.inputs = s.trays.inputs) ∧
          ((∀ i : Nat, i < rows * columns → flag i = true) →
            frameActivated s t f (.output n) true ∧ t.trays.inputs = s.trays.inputs.filter fun k => k != f)))

/-! ## Requests (chapters 9 and 10) -/

/-- A request that the device state does not accept (R150, R174): the threshold is set, the result reads BAD_STATE, or BUSY
while an ARM is in progress, and nothing else changes. -/
def Obligations.RefusedRequests : Prop :=
  ∀ (s : State) (q : HostRequest) (v : BitVec 3), s.atRest →
    (s.control.arming = none → q.accepted s.control.state = false →
      exec (q.command v) s =
        .next { s.setThreshold v with regs := { (s.setThreshold v).regs with result := 2#8 } }) ∧
    (s.control.state = .unarmed → s.control.arming ≠ none →
      exec (q.command v) s =
        .next { s.setThreshold v with regs := { (s.setThreshold v).regs with result := 1#8 } })

/-- What a refused ARM leaves, u being the state with its result: every frame that waits in POSTED is REJECTED with NOT_ARMED and
TRAY is set (R144, R168); nothing else changes, and with no frame waiting nothing at all. -/
def armRefused (u t : State) : Prop :=
  let base (f : FrameId) : Nat := 0x4000 + f.val * 0x1000
  let waits (f : FrameId) : Prop := readWord u.mem (base f) = 1#32
  t = { u with
    mem := t.mem
    outbox := t.outbox
    regs := { u.regs with attention := t.regs.attention, top := t.regs.top, interrupt := t.regs.interrupt } } ∧
  ((∀ f : FrameId, ¬waits f) → t = u) ∧
  ((∃ f : FrameId, waits f) → t.regs.attention = u.regs.attention ||| 1#6) ∧
  (∀ f : FrameId,
    (waits f → readWord t.mem (base f) = 5#32 ∧ readWord t.mem (base f + 0x0C) = 3#32) ∧
    (¬waits f → ∀ j : Nat, j < 0x1000 → readByte t.mem (base f + j) = readByte u.mem (base f + j))) ∧
  ∀ a : Nat, (a < 0x4000 ∨ 0x10 ≤ a % 0x1000 ∨ (4 ≤ a % 0x1000 ∧ a % 0x1000 < 0x0C)) → readByte t.mem a = readByte u.mem a

/-- ARM in UNARMED. Every check passed (R164, R165, R166): BUSY, the new copies held, both positions asked for, and the wait
of one action limit started. A check failed (R161, R168): the code and the offset of the first failing check, and nothing
else but the frames waiting in POSTED, which are rejected with NOT_ARMED (R144). -/
def Obligations.ArmRequest : Prop :=
  ∀ (s : State) (v : BitVec 3), s.atRest → s.control.state = .unarmed → s.control.arming = none →
    let t := s.setThreshold v
    ((∀ c ∈ armChecks s.mem, c.pass = true) →
      exec (.arm v) s = .next { t with
        regs := { t.regs with result := 1#8 }
        control := { s.control with
          arming := some
            { copies := readAll s.mem
              positions := ⟨none, none⟩
              expiry := s.time + (clampTo 10 2000 (readHalf s.mem 0x52).toNat) * 1000 } }
        outbox := t.outbox ++ [.positionRequest .a, .positionRequest .b] }) ∧
    (∀ (before after : List Check) (c : Check), armChecks s.mem = before ++ c :: after →
      (∀ b ∈ before, b.pass = true) → c.pass = false →
      ∃ z : State, exec (.arm v) s = .next z ∧ armRefused { t with
        regs := { t.regs with result := BitVec.ofNat 8 c.code, errorAddress := BitVec.ofNat 16 c.offset } } z)

/-- A field that fails a check made at ARM and at RUN from HELD: its code and the offset named (R161, step 6 of R162, R163). -/
def recordFault (m : List Host.Cell) (rail sep code offset : Nat) : Prop :=
  let word (a : Nat) : Nat := (readWord m a).toNat
  let byte (a : Nat) : Nat := (readByte m a).toNat
  (code = 24 ∧ ((offset = 0x244 ∧ word 0x244 < word 0x240) ∨ (offset = 0x244 ∧ rail < word 0x244) ∨
    (offset = 0x254 ∧ word 0x254 < word 0x250) ∨ (offset = 0x254 ∧ rail < word 0x254) ∨
    (offset = 0x250 ∧ word 0x250 < word 0x240 + sep) ∨ (offset = 0x254 ∧ word 0x254 < word 0x244 + sep))) ∨
  (code = 25 ∧ ∃ i : Nat, i < 32 ∧ offset = 0x300 + 16 * i + 2 ∧ 3 < byte offset) ∨
  (code = 26 ∧ ∃ i : Nat, i < 64 ∧ offset = 0x500 + 4 * i ∧ 7 < byte offset) ∨
  (code = 27 ∧ ∃ c : Nat, c < 8 ∧ offset = 0x600 + 8 * c ∧ 4 < byte offset) ∨
  (∃ c j : Nat, c < 8 ∧ j < byte (0x600 + 8 * c) ∧ offset = 0x600 + 8 * c + 1 + j ∧
    ((code = 27 ∧ ((byte offset < 2 ∨ 9 < byte offset) ∨
        ∃ e : Nat, e < j ∧ byte (0x600 + 8 * c + 1 + e) = byte offset)) ∨
      (code = 28 ∧ ∃ d e : Nat, d < c ∧ e < byte (0x600 + 8 * d) ∧ byte (0x600 + 8 * d + 1 + e) = byte offset)))

/-- A field that fails a check made at ARM alone (R161, steps 1 to 5 of R162). -/
def deckFault (m : List Host.Cell) (code offset : Nat) : Prop :=
  let word (a : Nat) : Nat := (readWord m a).toNat
  let byte (a : Nat) : Nat := (readByte m a).toNat
  let outside (lo hi n : Nat) : Prop := n < lo ∨ hi < n
  let rows (i : Nat) : Nat := if i = 10 then 2 else byte (0x58 + 20 * i + 16)
  let columns (i : Nat) : Nat := if i = 10 then 8 else byte (0x58 + 20 * i + 17)
  (code = 16 ∧ offset = 0x40 ∧ outside 100000 2000000 (word 0x40)) ∨
  (code = 17 ∧ offset = 0x44 ∧ outside 10000 600000 (word 0x44)) ∨
  (code = 18 ∧ offset = 0x48 ∧ outside 10000 60000 (word 0x48)) ∨
  (code = 19 ∧ offset = 0x4C ∧ outside 20000 500000 (word 0x4C)) ∨
  (code = 20 ∧ ∃ i : Nat, i < 11 ∧
    ((offset = 0x58 + 20 * i + 16 ∧ outside 1 8 (rows i)) ∨ (offset = 0x58 + 20 * i + 17 ∧ outside 1 16 (columns i)) ∨
      (offset = 0x58 + 20 * i ∧ word 0x40 < word offset + (columns i - 1) * word (offset + 8)) ∨
      (offset = 0x58 + 20 * i + 4 ∧ word 0x44 < word offset + (rows i - 1) * word (offset + 8)))) ∨
  (code = 21 ∧ ∃ i : Nat, i < 32 ∧ ((offset = 0x140 + 8 * i ∧ word 0x40 < word offset) ∨
    (offset = 0x140 + 8 * i + 4 ∧ word 0x44 < word offset))) ∨
  (code = 22 ∧ offset = 0x55 ∧ 7 < byte 0x55) ∨
  (code = 23 ∧ ∃ i : Nat, 8 ≤ i ∧ i ≤ 11 ∧ (offset = 0x240 + i ∨ offset = 0x250 + i) ∧ 3 < byte offset)

/-- The checks of an ARM and of a RUN from HELD (R161 to R163, R169): every check passes when no field is wrong; and the first
failing check names a wrong field, of the lowest code, 27 and 28 counting as one, and there of the first record: the station by
its number, sockets, profile indices, sites, bin map entries and stations listed by their offsets. -/
def Obligations.CheckTable : Prop :=
  let rank (c : Nat) : Nat := if c = 28 then 27 else c
  let place (code offset : Nat) : Nat := if code = 20 then (offset - 0x58) / 20 else if code = 24 then 0 else offset
  let agree (l : List Check) (wrong : Nat → Nat → Prop) : Prop :=
    ((∀ c ∈ l, c.pass = true) ↔ ∀ code offset : Nat, ¬wrong code offset) ∧
    ∀ (before after : List Check) (c : Check), l = before ++ c :: after → (∀ b ∈ before, b.pass = true) →
      c.pass = false → wrong c.code c.offset ∧ ∀ code offset : Nat, wrong code offset →
        rank c.code < rank code ∨ (rank c.code = rank code ∧ place c.code c.offset ≤ place code offset)
  ∀ (m : List Host.Cell) (d : DeckConfig),
    agree (armChecks m) (fun code offset => deckFault m code offset ∨
      recordFault m (readWord m 0x40).toNat (readWord m 0x4C).toNat code offset) ∧
    agree (runChecks m d) (recordFault m d.railLength d.separation)

/-- An accepted deck is legal (R80, R160, R162, R163): what the checks of an ARM let through lies in the ranges of chapter 9,
its windows keep the separation, and the index and class bytes as the host wrote them are in range. -/
def Obligations.AcceptedDeckLegal : Prop :=
  ∀ m : List Host.Cell, (∀ c ∈ armChecks m, c.pass = true) →
    let k := readAll m
    (100000 ≤ k.deck.railLength ∧ k.deck.railLength ≤ 2000000) ∧
    (10000 ≤ k.deck.yTravel ∧ k.deck.yTravel ≤ 600000) ∧
    (10000 ≤ k.deck.nozzlePitch ∧ k.deck.nozzlePitch ≤ 60000) ∧
    (20000 ≤ k.deck.separation ∧ k.deck.separation ≤ 500000) ∧
    k.deck.pickRetries ≤ 3 ∧ k.deck.placeRetries ≤ 3 ∧ (10 ≤ k.deck.actionLimit ∧ k.deck.actionLimit ≤ 2000) ∧
    (∀ i : Fin 32, k.deck.sockets[i].x ≤ k.deck.railLength ∧ k.deck.sockets[i].y ≤ k.deck.yTravel) ∧
    (∀ i : Fin 11, k.deck.stations[i].originX + (k.deck.stations[i].maxColumns - 1) * k.deck.stations[i].pitchX
        ≤ k.deck.railLength ∧
      k.deck.stations[i].originY + (k.deck.stations[i].maxRows - 1) * k.deck.stations[i].pitchY ≤ k.deck.yTravel ∧
      (1 ≤ k.deck.stations[i].maxRows ∧ k.deck.stations[i].maxRows ≤ 8) ∧
      (1 ≤ k.deck.stations[i].maxColumns ∧ k.deck.stations[i].maxColumns ≤ 16)) ∧
    (k.heads.a.windowLow ≤ k.heads.a.windowHigh ∧ k.heads.b.windowLow ≤ k.heads.b.windowHigh ∧
      k.heads.a.windowHigh ≤ k.deck.railLength ∧ k.heads.b.windowHigh ≤ k.deck.railLength ∧
      k.heads.a.windowLow + k.deck.separation ≤ k.heads.b.windowLow ∧
      k.heads.a.windowHigh + k.deck.separation ≤ k.heads.b.windowHigh) ∧
    (∀ i : Fin 4, (10 ≤ k.motion[i].velocity ∧ k.motion[i].velocity ≤ 4000) ∧
      (500 ≤ k.motion[i].acceleration ∧ k.motion[i].acceleration ≤ 60000) ∧ k.motion[i].settle ≤ 50000) ∧
    (∀ i : Fin 4, k.profiles[i].contact ≤ 10000 ∧ k.profiles[i].release ≤ 10000 ∧ k.profiles[i].recovery ≤ 10000 ∧
      k.profiles[i].endOfTest ≤ 3600) ∧
    (∀ i : Fin 64, 1 ≤ k.bins[i].limit ∧ k.bins[i].limit ≤ 3) ∧
    (∀ i : Fin 32, k.sites[i].level ≤ 7 ∧ k.sites[i].threshold ≤ 15) ∧
    (∀ c d : Fin 8, k.classes[c].Nodup ∧ k.classes[c].length ≤ 4 ∧
      (c ≠ d → ∀ n ∈ k.classes[c], n ∉ k.classes[d])) ∧
    (readByte m 0x55).toNat ≤ 7 ∧
    (∀ i : Nat, 8 ≤ i → i ≤ 11 → (readByte m (0x240 + i)).toNat ≤ 3 ∧ (readByte m (0x250 + i)).toNat ≤ 3) ∧
    (∀ i : Nat, i < 32 → (readByte m (0x302 + 16 * i)).toNat ≤ 3) ∧
    (∀ i : Nat, i < 64 → (readByte m (0x500 + 4 * i)).toNat ≤ 7)

/-- The second POSITION of an ARM whose two positions fit (R166, R167, with R2, R4, R29, R40, R52, R78, R109): every record
at its ARM value, the time at 0, HELD, result OK. The frames by R144: each whose word holds ACTIVE, CLOSE or SPENT is
REJECTED with reason STALE, its count kept (the model's reading, log entry 20); then each in POSTED is judged in order of
frame number, each against the frames judged before it (`z` gives the states between); TRAY is set once for all of them. -/
def Obligations.ArmCompletes : Prop :=
  ∀ (s : State) (w : ArmWait) (h : HeadId) (p q : Point), s.atRest → s.control.state = .unarmed →
    s.control.arming = some w → w.positions.get h = none → w.positions.get h.other = some q →
    let pa := (w.positions.set h (some p)).a.getD p
    let pb := (w.positions.set h (some p)).b.getD p
    let d := w.copies.deck
    (pa.x ≤ d.railLength ∧ pa.y ≤ d.yTravel ∧ pb.x ≤ d.railLength ∧ pb.y ≤ d.yTravel ∧ pa.x + d.separation ≤ pb.x) →
    let headAt (z : Point) : HeadRecord :=
      { state := .stopped, x := z.x, y := z.y, slots := Vector.replicate 4 none, load := .empty, job := none, legs := [],
        binLatch := false }
    let stale (f : FrameId) : Prop := readWord s.mem (0x4000 + f.val * 0x1000) = 2#32 ∨
      readWord s.mem (0x4000 + f.val * 0x1000) = 3#32 ∨ readWord s.mem (0x4000 + f.val * 0x1000) = 4#32
    let posted (f : FrameId) : Prop := readWord s.mem (0x4000 + f.val * 0x1000) = 1#32
    let rejected : FrameRecord := { state := .rejected, copy := none, marks := [], done := 0 }
    ∃ t : State, exec (.position h p.x p.y) s = .next t ∧ t = { s with
      shadow := some w.copies
      time := 0
      sites :=
        { sockets := Vector.ofFn fun i : Fin 32 =>
            { state := if w.copies.sites[i].lockout then .locked else if w.copies.sites[i].enable then .empty else .disabled
              ready := false, bound := none, stop := .none, unit := none, bad := 0, latch := w.copies.sites[i].lockout
              timer := .stopped, start := 0 }
          tests := Vector.replicate 32 { isOpen := false, serial := 0#32, late := .none } }
      units :=
        { records := Vector.replicate 64 none, counter := 0#32, retest := []
          strip := Vector.replicate 16 { content := none, reservation := none, blocked := false } }
      planner := { heads := ⟨headAt pa, headAt pb⟩, requests := Vector.replicate 32 none, supply := false }
      rail := { reserved := ⟨some ⟨pa.x, pa.x⟩, some ⟨pb.x, pb.x⟩⟩, waiting := ⟨none, none⟩ }
      link := ⟨.empty, .empty⟩
      control := { s.control with state := .held, holdAck := false, arming := none }
      regs := { t.regs with result := 0#8 }
      mem := t.mem
      outbox := t.outbox
      trays := t.trays } ∧
    ((∀ f : FrameId, ¬stale f ∧ ¬posted f) → t.mem = s.mem ∧ t.trays = s.trays ∧ t.outbox = s.outbox ∧
      t.regs = { s.regs with result := 0#8 }) ∧
    ((∃ f : FrameId, stale f ∨ posted f) → t.regs = { s.regs with
      result := 0#8, attention := s.regs.attention ||| 1#6, top := t.regs.top, interrupt := t.regs.interrupt }) ∧
    (∀ f : FrameId,
      let base := 0x4000 + f.val * 0x1000
      (stale f → readWord t.mem base = 5#32 ∧ readByte t.mem (base + 0x0C) = 9#8 ∧
        readByte t.mem (base + 0x0D) = readByte s.mem (base + 0x0D) ∧ readHalf t.mem (base + 0x0E) = 0#16 ∧
        t.frame f = rejected ∧
        ∀ j : Nat, (4 ≤ j ∧ j < 0x0C) ∨ (0x10 ≤ j ∧ j < 0x1000) → readByte t.mem (base + j) = readByte s.mem (base + j)) ∧
      (¬stale f → ¬posted f → t.frame f = s.frame f ∧
        ∀ j : Nat, j < 0x1000 → readByte t.mem (base + j) = readByte s.mem (base + j))) ∧
    (∀ a : Nat, a < 0x4000 → readByte t.mem a = readByte s.mem a) ∧
    ((∀ f : FrameId, ¬posted f) → t.trays.inputs = s.trays.inputs) ∧
    ∃ z : Nat → State,
      (∀ n : Nat, (z n).shadow = some w.copies ∧ (z n).control.state = .held) ∧
      ((z 0).trays.inputs = s.trays.inputs ∧
        ∀ f : FrameId, (stale f → (z 0).frame f = rejected) ∧ (¬stale f → (z 0).frame f = s.frame f ∧
          ∀ j : Nat, j < 0x1000 →
            readByte (z 0).mem (0x4000 + f.val * 0x1000 + j) = readByte s.mem (0x4000 + f.val * 0x1000 + j))) ∧
      (∀ f : FrameId, (posted f → frameJudged (z f.val) (z (f.val + 1)) f) ∧ (¬posted f → z (f.val + 1) = z f.val)) ∧
      t.mem = (z 12).mem ∧ t.trays = (z 12).trays

/-- The other ends of a wait for positions (R166): a first POSITION is kept, a second of the same head discarded, a pair
that does not fit refuses the ARM with 29, and the end of the wait with 30; ERROR_ADDRESS stays, and the frames waiting in
POSTED are rejected (R144, R168). That the end of the wait sent early moves the time base up to its time is the model's
choice (log entry 3). -/
def Obligations.ArmWaitEnds : Prop :=
  ∀ (s : State) (w : ArmWait), s.atRest → s.control.state = .unarmed → s.control.arming = some w →
    let refused (t : State) (code : Byte) : State :=
      { t with control := { s.control with arming := none }, regs := { s.regs with result := code } }
    (∀ (h : HeadId) (p : Point), w.positions.get h = none → w.positions.get h.other = none →
      exec (.position h p.x p.y) s =
        .next { s with control := { s.control with arming := some { w with positions := w.positions.set h (some p) } } }) ∧
    (∀ (h : HeadId) (x y : Nat), w.positions.get h ≠ none → exec (.position h x y) s = .next s) ∧
    (∀ (h : HeadId) (p q : Point), w.positions.get h = none → w.positions.get h.other = some q →
      let pa := (w.positions.set h (some p)).a.getD p
      let pb := (w.positions.set h (some p)).b.getD p
      let d := w.copies.deck
      ¬(pa.x ≤ d.railLength ∧ pa.y ≤ d.yTravel ∧ pb.x ≤ d.railLength ∧ pb.y ≤ d.yTravel ∧ pa.x + d.separation ≤ pb.x) →
      ∃ t : State, exec (.position h p.x p.y) s = .next t ∧ armRefused (refused s 29#8) t) ∧
    ∃ t : State, exec .positionWaitExpiry s = .next t ∧ armRefused (refused { s with time := max s.time w.expiry } 30#8) t

/-- RUN. In HELD, a failing check refuses it: the code and the offset of the first one, and nothing else (R169); with every
check passed the editable records replace their copies (R159, R170), every socket takes the edits of its site by the flags
read (R22; SiteEditTable), the recovery timer of a JAM_CLEAR by the new profile index (the model's choice, log entry 26),
the flags words read as set are written back as zero (R27), hold acknowledge is cleared, and the device enters RUN, or
DRAINING with the drain latch set (R175), where each STOPPED head goes to IDLE and selects (R76) and R180 may complete the
drain. In DRAINED the latch is cleared and RUN entered; no record is read, no action flag written back (R171), and no byte of
memory changes where both heads are IDLE with no legs and none waits, as in every DRAINED that a run reaches
(RequestsAndHeldKept). -/
def Obligations.RunRequest : Prop :=
  ∀ (s : State) (v : BitVec 3), s.atRest →
    (∀ (before after : List Check) (c : Check), s.control.state = .held →
      runChecks s.mem s.deck = before ++ c :: after → (∀ b ∈ before, b.pass = true) → c.pass = false →
      let t := s.setThreshold v
      exec (.run v) s = .next { t with
        regs := { t.regs with result := BitVec.ofNat 8 c.code, errorAddress := BitVec.ofNat 16 c.offset } }) ∧
    (s.control.state = .held → (∀ c ∈ runChecks s.mem s.deck, c.pass = true) →
      ∃ t : State, exec (.run v) s = .next t ∧ t.regs.result = 0#8 ∧ t.shadow = some (rereadInto s.cfg s.mem) ∧
        (∀ i : Site,
          let flags := readWord s.mem (0x300 + 16 * i.val + 8)
          (flags.getLsbD 0 = true ∨ flags.getLsbD 1 = true → readWord t.mem (0x300 + 16 * i.val + 8) = 0#32) ∧
          (flags.getLsbD 0 = false → flags.getLsbD 1 = false → readWord t.mem (0x300 + 16 * i.val + 8) = flags) ∧
          let read : State := { s with shadow := some (rereadInto s.cfg s.mem) }
          ((∀ (j : Site) (u : Handle) (r : UnitRecord), (s.socket j).unit = some u → s.unit u = some r → r.place = .site j) →
            ((s.socket i).state = .jammed → flags.getLsbD 1 = true → (read.profile i).recovery ≠ 0) →
            t.socket i = { (read.editSite i (flags.getLsbD 0) (flags.getLsbD 1)).socket i with bound := (t.socket i).bound })) ∧
        (∀ h : HeadId, (s.head h).state = .stopped → (t.head h).state ≠ .stopped) ∧
        (s.control.drainLatch = false → t.control = { s.control with state := .run, holdAck := false }) ∧
        (s.control.drainLatch = true → t.control = { s.control with state := .draining, holdAck := false } ∨
          t.control = { s.control with state := .drained, holdAck := false })) ∧
    (s.control.state = .drained →
      ∃ t : State, exec (.run v) s = .next t ∧ t.control = { s.control with state := .run, drainLatch := false } ∧
        t.regs.result = 0#8 ∧ t.shadow = s.shadow ∧ t.regs.errorAddress = s.regs.errorAddress ∧
        (∀ a : Nat, a < 0x4000 → readByte t.mem a = readByte s.mem a) ∧
        ((∀ h : HeadId, (s.head h).state = .idle ∧ (s.head h).legs = [] ∧ s.rail.waiting.get h = none) → t.mem = s.mem)) ∧
    s.runTask .selectIdle = s.selectResting ∧
    (s.control.state = .held →
      let entered : State := { s with
        control := { s.control with state := if s.control.drainLatch = true then .draining else .run, holdAck := false } }
      let routed := if s.control.drainLatch = true then entered.reroute else entered
      let awake (h : HeadId) : HeadState := if (s.head h).state = .stopped then .idle else (s.head h).state
      s.runTask .runEntry =
        (((routed.setHeadState .a (awake .a)).setHeadState .b (awake .b)).push .selectIdle).push .drainTest)

/-- An accepted HOLD (R75, R176, R177): the jobs not under way dissolved by R74, heads in flight as they are, resting heads
STOPPED; HELD at once with hold acknowledge and STATE exactly when no head is in flight and no command is outstanding, HOLDING
otherwise; the drain latch is kept. With the test of R177 itself, which the other statements name `holdTest`. -/
def Obligations.HoldRequest : Prop :=
  (∀ (s : State) (v : BitVec 3), s.atRest → s.control.state = .run ∨ s.control.state = .draining →
    ∃ t : State, exec (.hold v) s = .next t ∧ t.regs.result = 0#8 ∧ t.shadow = s.shadow ∧ HeldBack s t) ∧
  ∀ s : State,
    let complete : Prop :=
      s.control.state = .holding ∧ (∀ h : HeadId, (s.head h).state = .stopped) ∧ s.link = ⟨.empty, .empty⟩
    (complete → s.holdTest = { s with control := { s.control with state := .held, holdAck := true } }.setFlag .state) ∧
    (¬complete → s.holdTest = s)

/-- An accepted DRAIN (R179, R180): in HELD the latch alone; in RUN the latch and DRAINING. The drain is complete at once only
with no unit record in use and both heads IDLE, and it is so when that holds at the request with nothing that a head could
take. The entry to DRAINING in RUN (R47, R66, R76): every job, leg, head and command goes on as it is, the units on nozzles are
checked (`reroute`, stated in StripReports), the resting heads select (`selectResting`, stated in Preemption), and the test of R180
comes after (the model's order, log entry 9); a head in flight or in SOCKET_WAIT is then as it was. With the test of R180 itself,
which the other statements name `drainTest`. -/
def Obligations.DrainRequest : Prop :=
  (∀ (s : State) (v : BitVec 3), s.atRest →
    (s.control.state = .held →
      let t := s.setThreshold v
      exec (.drain v) s = .next { t with
        control := { s.control with drainLatch := true }, regs := { t.regs with result := 0#8 } }) ∧
    (s.control.state = .run →
      ∃ t : State, exec (.drain v) s = .next t ∧ t.regs.result = 0#8 ∧ t.shadow = s.shadow ∧
        (t.control = { s.control with state := .draining, drainLatch := true } ∨
          t.control = { s.control with state := .drained, drainLatch := true } ∧ (∀ u : Handle, t.unit u = none) ∧
            (∀ h : HeadId, (t.head h).state = .idle) ∧ t.regs.attention.getLsbD AttentionClass.state.bit = true) ∧
        ((∀ u : Handle, s.unit u = none) → (∀ h : HeadId, (s.head h).state = .idle) → (∀ i : Site, s.request i = none) →
          s.units.retest = [] → s.rail.waiting = ⟨none, none⟩ → t.control.state = .drained) ∧
        (s.LinkRight → ∀ h : HeadId, (s.head h).state.inFlight = true ∨ (s.head h).state = .socketWait →
          t.head h = s.head h ∧ t.link.get h = s.link.get h)) ∧
    (s.control.state = .run →
      let u := s.setThreshold v
      let entered : State := { u with
        control := { s.control with state := .draining, drainLatch := true }, regs := { u.regs with result := 0#8 } }
      exec (.drain v) s = ((entered.reroute.push .selectIdle).push .drainTest).finish ∧
      entered.reroute =
        { entered with units := entered.reroute.units, agenda := entered.reroute.agenda } ∧
      ∀ x ∈ entered.reroute.agenda, ∃ h : HeadId, x = .selectHead h)) ∧
  ∀ s : State,
    (s.runTask .drainTest = s.drainTest ∧ s.runTask .selectIdle = s.selectResting ∧
      ∀ h : HeadId, s.runTask (.selectHead h) = s.select h) ∧
    let complete : Prop :=
      s.control.state = .draining ∧ (∀ u : Handle, s.unit u = none) ∧ ∀ h : HeadId, (s.head h).state = .idle
    (complete → s.drainTest = { s with control := { s.control with state := .drained } }.setFlag .state) ∧
    (¬complete → s.drainTest = s)

/-- The two resets (R126, R183, R184): every record at its reset value and STOP(all) sent; a soft reset keeps exchange memory
and LEVELS and takes the threshold of its write. The queue of commands and the model's own `outbox` and `choices` go on at a
soft reset (log entries 4 and 6). And what the host reads after power-on: the registers, the identity block, and zero in the
rest of exchange memory (R146, R150, R172). -/
def Obligations.Resets : Prop :=
  (∀ (s : State) (v : BitVec 3),
    exec (.reset v) s = .next { State.reset with
      pending := s.pending
      mem := s.mem
      regs := { Registers.reset with levels := s.regs.levels, threshold := v }
      outbox := (s.setThreshold v).outbox ++ [.stopAll]
      choices := s.choices } ∧
    exec .powerOnReset s = .next { State.reset with pending := s.pending }) ∧
  readRegister State.reset 0x00 = 0x00017340#32 ∧ readRegister State.reset 0x04 = 0#32 ∧
  readRegister State.reset 0x08 = 0#32 ∧ readRegister State.reset 0x0C = 0#32 ∧ readRegister State.reset 0x10 = 0#32 ∧
  readRegister State.reset 0x14 = 0#32 ∧ readRegister State.reset 0x18 = 0#32 ∧
  ([0, 1, 2, 3, 4, 5, 6, 7, 8, 9].map (readByte State.reset.mem)) =
    [0x40#8, 0x73#8, 1#8, 0#8, 32#8, 2#8, 4#8, 12#8, 32#8, 64#8] ∧
  ∀ a : Nat, 10 ≤ a → readByte State.reset.mem a = 0#8

/-! ## Registers and attention (chapter 8) -/

/-- The top class (R154): a set flag of level 1 to 7, of the highest level, the first in the order on equal levels. And the
host's writes of the threshold alone, to ATTENTION and to LEVELS (R150, R153, R154): the field, the top class and the interrupt
found again, one message at a change from lowered to raised, and nothing else; the result stays. A write narrower than a word,
or to IDENT, STATUS, ERROR_ADDRESS or an unused offset, is dropped (R150, R151, R152). -/
def Obligations.AttentionRule : Prop :=
  (∀ r : Registers,
    let on (c : AttentionClass) : Prop := r.attention.getLsbD c.bit = true ∧ levelOf r.levels c ≠ 0
    (∀ c : AttentionClass, topClass r = some c ↔ on c ∧ ∀ d : AttentionClass, on d →
      levelOf r.levels d < levelOf r.levels c ∨ (levelOf r.levels d = levelOf r.levels c ∧ c.bit ≤ d.bit)) ∧
    (topClass r = none ↔ ∀ c : AttentionClass, ¬on c) ∧
    (interruptRaised r = true ↔ ∃ c : AttentionClass, topClass r = some c ∧ r.threshold.toNat < levelOf r.levels c)) ∧
  ∀ s : State, s.atRest →
    let after (r : Registers) : State :=
      { s with
        regs := { r with top := topClass r, interrupt := interruptRaised r }
        outbox := s.outbox ++ if interruptRaised r = true ∧ s.regs.interrupt = false then [.interrupt] else [] }
    (∀ v : BitVec 3, exec (.attentionThreshold v) s = .next (after { s.regs with threshold := v })) ∧
    (∀ v : Word, exec (.attentionClear v) s =
      .next (after { s.regs with attention := s.regs.attention &&& ~~~(v.extractLsb' 0 6) })) ∧
    (∀ v : Word, exec (.levels v) s = .next (after { s.regs with levels := v &&& 0x00777777#32 })) ∧
    (∀ (o : BitVec 5) (e : BitVec 4) (v : Word),
      e ≠ 0xF#4 ∨ (o.toNat / 4 ≠ 1 ∧ o.toNat / 4 ≠ 3 ∧ o.toNat / 4 ≠ 4) →
      exec (.registerWriteDropped o e v) s = .next s)

/-! ## Exchange memory, frames and notices (chapters 7 and 8) -/

/-- A host write of one byte or more (R146, R148). One that touches no watched word: each byte is stored where memory is
writable, dropped in the identity block and in the range that is not backed, and nothing else changes. One that covers a
frame's or a slot's state word and its neighbours: the neighbours are stored and the state word is judged; narrow and
refused writes leave it and set ERROR_ADDRESS, for a frame with the notice of R128 outside UNARMED; a repeated value has no
effect; and FREE on SPENT, REJECTED or FILLED (with no notice waiting) is taken. A POSTED or CLOSE that is taken acts as its own
command does, once the bytes below it are stored and before those above it are (R148); a head's job has at most 4 legs there, as
RestKept says it has. -/
def Obligations.ExchangeWriteStores : Prop :=
  ∀ (s : State) (o : BitVec 16) (b : List Byte), s.atRest → Memory.wf s.mem = true → b ≠ [] →
    let hi := o.toNat + b.length
    let stored (t : State) (a : Nat) : Prop := readByte t.mem a =
      if o.toNat ≤ a ∧ a < hi ∧ 0x40 ≤ a ∧ ¬(0x1800 ≤ a ∧ a < 0x4000) then b.getD (a - o.toNat) 0#8
      else readByte s.mem a
    let whole (base : Nat) : Prop := o.toNat ≤ base ∧ base + 4 ≤ hi
    let value (base : Nat) : Word := b.getD (base + 3 - o.toNat) 0#8 ++ b.getD (base + 2 - o.toNat) 0#8 ++
      b.getD (base + 1 - o.toNat) 0#8 ++ b.getD (base - o.toNat) 0#8
    (Instr.wellFormed (.exchangeMemoryWrite o b) = true →
      ∃ t : State, exec (.exchangeMemoryWrite o b) s = .next t ∧ t = { s with mem := t.mem } ∧ Memory.wf t.mem = true ∧
        ∀ a : Nat, stored t a) ∧
    (∀ f : FrameId,
      let base := 0x4000 + f.val * 0x1000
      let held := readWord s.mem base
      base + 4 ≤ o.toNat + 0x1000 → o.toNat < base + 4 → base < hi → hi ≤ base + 0x1000 →
      let neighbours (t : State) : Prop := readWord t.mem base = held ∧
        ∀ a : Nat, a < 0x1000 ∨ 0x1800 ≤ a ∨ s.control.state = .unarmed → ¬(base ≤ a ∧ a < base + 4) → stored t a
      let refused : Prop := ∃ t : State, exec (.exchangeMemoryWrite o b) s = .next t ∧ neighbours t ∧
        t.regs.errorAddress = BitVec.ofNat 16 base ∧
        (s.control.state ≠ .unarmed →
          t = { s with mem := t.mem, regs := t.regs, outbox := t.outbox, board := t.board } ∧
          t.regs = { s.regs with
            errorAddress := BitVec.ofNat 16 base
            attention := s.regs.attention ||| 2#6
            top := t.regs.top
            interrupt := t.regs.interrupt }) ∧
        (s.control.state = .unarmed → t = { s with mem := t.mem, regs := { s.regs with errorAddress := BitVec.ofNat 16 base } })
      (¬whole base → refused) ∧
      (whole base → value base ≠ held → ¬(held = 0#32 ∧ value base = 1#32) → ¬(held = 2#32 ∧ value base = 3#32) →
        ¬((held = 4#32 ∨ held = 5#32) ∧ value base = 0#32) → refused) ∧
      (whole base → value base = held →
        ∃ t : State, exec (.exchangeMemoryWrite o b) s = .next t ∧ readWord t.mem base = held ∧ t = { s with mem := t.mem } ∧
          ∀ a : Nat, ¬(base ≤ a ∧ a < base + 4) → stored t a) ∧
      (whole base → held = 4#32 ∨ held = 5#32 → value base = 0#32 →
        ∃ t : State, exec (.exchangeMemoryWrite o b) s = .next t ∧ readWord t.mem base = 0#32 ∧
          (∀ a : Nat, ¬(base ≤ a ∧ a < base + 4) → stored t a) ∧
          t = { s.setFrame f { state := .free, copy := none, marks := [], done := 0 } with mem := t.mem }) ∧
      (whole base → (held = 0#32 ∧ value base = 1#32) ∨ (held = 2#32 ∧ value base = 3#32) →
        (∀ h : HeadId, (s.head h).legs.length ≤ 4) →
        let c : Instr := if value base = 1#32 then .posted f else .close f
        ∃ lower judged t : State, lower = { s with mem := lower.mem } ∧
          (∀ a : Nat, a < base → stored lower a) ∧ (∀ a : Nat, base ≤ a → readByte lower.mem a = readByte s.mem a) ∧
          exec c lower = .next judged ∧ exec (.exchangeMemoryWrite o b) s = .next t ∧ t = { judged with mem := t.mem } ∧
          ∀ a : Nat, readByte t.mem a =
            if base + 4 ≤ a ∧ a < hi then b.getD (a - o.toNat) 0#8 else readByte judged.mem a)) ∧
    (∀ k : SlotId,
      let base := 0x1000 + k.val * 0x40
      let held := readWord s.mem base
      base + 4 ≤ o.toNat + 0x40 → o.toNat < base + 4 → base < hi → hi ≤ base + 0x40 →
      let noted : State := { s with regs := { s.regs with errorAddress := BitVec.ofNat 16 base } }
      let judged (r : Registers) : Prop := ∃ t : State, exec (.exchangeMemoryWrite o b) s = .next t ∧
        t = { s with mem := t.mem, regs := r } ∧ readWord t.mem base = held ∧
        ∀ a : Nat, ¬(base ≤ a ∧ a < base + 4) → stored t a
      (¬whole base ∨ (value base ≠ held ∧ ¬(held = 1#32 ∧ value base = 0#32)) → judged noted.regs) ∧
      (whole base → value base = held → judged s.regs) ∧
      (whole base → held = 1#32 → value base = 0#32 → s.board.queue = [] →
        ∃ t : State, exec (.exchangeMemoryWrite o b) s = .next t ∧ t = { s with mem := t.mem } ∧ readWord t.mem base = 0#32 ∧
          ∀ a : Nat, ¬(base ≤ a ∧ a < base + 4) → stored t a))

/-- A POSTED frame is validated outside UNARMED and HALTED (R129, R130, R131, R147): activated, or rejected by the first check that
fails. An input frame goes to the tail of the list. An output frame's time list is cleared too; with no usable pocket it is
SPENT at once with reason COMPLETE (R142). An activation leaves the selection of the resting heads as follow-up work, a rejection
leaves none (step 6 of R130, R66); with no head taking work nothing comes of it. And room for a class at the release of a
reservation (R137, R143): that selection again, for an ACTIVE output frame at a station a class lists, and for no other frame; in
a frame in CLOSE the release may leave the frame SPENT (R140). -/
def Obligations.PostedActivates : Prop :=
  (∀ (s : State) (f : FrameId), s.atRest → s.control.arming = none → s.control.state ≠ .unarmed →
    s.control.state ≠ .halted → readWord s.mem (0x4000 + f.val * 0x1000) = 0#32 →
    ∃ u : State, exec (.posted f) s = u.finish ∧
      u = { s with mem := u.mem, trays := u.trays, regs := u.regs, outbox := u.outbox, agenda := u.agenda } ∧
      u.regs = { s.regs with attention := u.regs.attention, top := u.regs.top, interrupt := u.regs.interrupt } ∧
      frameJudged s u f ∧ (∀ x ∈ u.agenda, x = .selectIdle) ∧ ((u.frame f).state = .active → u.agenda ≠ []) ∧
      ((u.frame f).state = .rejected → u.agenda = []) ∧
      (s.noTakers → exec (.posted f) s = .next { u with agenda := [] })) ∧
  ∀ (s : State) (f : FrameId) (i : Nat) (h : HeadId),
    let r := s.frame f
    let base := 0x4000 + f.val * 0x1000
    let opened := s.setFrame f { r with marks := r.marks.set i .isOpen }
    s.runTask .selectIdle = s.selectResting ∧
    (r.marks.getD i .isOpen ≠ .reserved h → s.releasePocket f i h = s) ∧
    (r.marks.getD i .isOpen = .reserved h →
      (∀ c : FrameCopy, r.state = .active → r.copy = some c →
        (∀ n : Fin 8, c.station = .output n →
          ((∃ k : Fin 8, n ∈ s.cfg.classes[k]) → s.releasePocket f i h = opened.push .selectIdle) ∧
          ((∀ k : Fin 8, n ∉ s.cfg.classes[k]) → s.releasePocket f i h = opened)) ∧
        (∀ n : Fin 2, c.station = .input n → s.releasePocket f i h = opened)) ∧
      (r.state = .close →
        ((∃ (j : Nat) (g : HeadId), (opened.frame f).marks[j]? = some (.reserved g)) → s.releasePocket f i h = opened) ∧
        ((∀ (j : Nat) (g : HeadId), (opened.frame f).marks[j]? ≠ some (.reserved g)) →
          let t := s.releasePocket f i h
          t.frame f = { r with state := .spent, marks := [] } ∧ readWord t.mem base = 4#32 ∧
            readByte t.mem (base + 0x0C) = 2#8 ∧ t.regs.attention = s.regs.attention ||| 1#6 ∧
            t.trays.inputs = s.trays.inputs.filter fun g => g != f)))

/-- POSTED written on FREE where no frame is taken (R129, R144): held in POSTED while an ARM is in progress; else REJECTED by the
first of the checks of R129 that fails: NOT_ARMED in HALTED and in UNARMED, BAD_STATION, BAD_GEOMETRY, STATION_BUSY,
UNBOUND_STATION, EMPTY_TRAY; the reason with a count of 0, TRAY, and nothing else of the frame's memory. That the frame record
stays as it is in UNARMED is the model's reading (log entry 20). -/
def Obligations.PostedNotTaken : Prop :=
  ∀ (s : State) (f : FrameId), s.atRest → readWord s.mem (0x4000 + f.val * 0x1000) = 0#32 →
    let base := 0x4000 + f.val * 0x1000
    let rejected (code : Word) : Prop := ∃ t : State, exec (.posted f) s = .next t ∧
      t = { s with mem := t.mem, regs := t.regs, outbox := t.outbox, trays := t.trays } ∧
      t.regs.errorAddress = s.regs.errorAddress ∧ frameRejected s t f code
    (s.control.state = .unarmed → s.control.arming ≠ none →
      exec (.posted f) s = .next { s with mem := writeWord s.mem base 1#32 }) ∧
    (s.control.arming = none → s.control.state = .unarmed ∨ s.control.state = .halted → rejected 3#32) ∧
    (s.control.arming = none → s.control.state ≠ .unarmed → s.control.state ≠ .halted →
      let rows := (readByte s.mem (base + 5)).toNat
      let columns := (readByte s.mem (base + 6)).toNat
      let station := (readByte s.mem (base + 4)).toNat
      (10 ≤ station → rejected 4#32) ∧
      ∀ st : Fin 10, station = st.val →
        let g := s.deck.stations[st.val]
        let good : Prop := 1 ≤ rows ∧ rows ≤ 8 ∧ 1 ≤ columns ∧ columns ≤ 16 ∧ rows ≤ g.maxRows ∧ columns ≤ g.maxColumns
        let busy : Prop := ∃ k : FrameId, k ≠ f ∧ ((s.frame k).state = .active ∨ (s.frame k).state = .close) ∧
          ((s.frame k).copy.map fun c => c.station.code) = some st.val
        (¬good → rejected 5#32) ∧ (good → busy → rejected 6#32) ∧
        (good → ¬busy → ∀ n : Fin 8, n.val + 2 = st.val → (∀ c : Fin 8, n ∉ s.cfg.classes[c]) → rejected 7#32) ∧
        (good → ¬busy → st.val < 2 → (∀ i : Nat, i < rows * columns →
          (readByte s.mem (base + 0x20 + i / 8)).getLsbD (i % 8) = false) → rejected 8#32))

/-- CLOSE written on ACTIVE (R140, R142, R144, R145). In UNARMED a write to the word alone. With no job whose next leg is for the
frame: CLOSE while a pocket is reserved; else SPENT with reason CLOSED, TRAY, the frame off the activation list (no head taking
work, or HELD, DRAINED or HALTED, where none can). In RUN a head whose next leg, not yet granted, is for the frame is dissolved
and IDLE, its pocket released (R74, R75); notices wait here, so that its selection binds nothing (R71). -/
def Obligations.CloseSpends : Prop :=
  ∀ (s : State) (f : FrameId), s.atRest → readWord s.mem (0x4000 + f.val * 0x1000) = 2#32 →
    let base := 0x4000 + f.val * 0x1000
    let affected (h : HeadId) : Prop := ((s.head h).state = .bound ∨ (s.head h).state = .railWait) ∧
      ((s.head h).legs.head?.bind Leg.frame) = some f
    let spent (t : State) : Prop :=
      t.trays.inputs = s.trays.inputs.filter (fun g => g != f) ∧
      t.frame f = { s.frame f with state := .spent, marks := [] } ∧ readWord t.mem base = 4#32 ∧
      readWord t.mem (base + 0x0C) = BitVec.ofNat 32 (2 + 0x100 * ((s.frame f).done % 256)) ∧
      t.regs.attention = s.regs.attention ||| 1#6 ∧
      ∀ a : Nat, ¬(base ≤ a ∧ a < base + 4) → ¬(base + 0x0C ≤ a ∧ a < base + 0x10) → readByte t.mem a = readByte s.mem a
    (s.control.state = .unarmed → exec (.close f) s = .next { s with mem := writeWord s.mem base 3#32 }) ∧
    (s.control.state ≠ .unarmed → (s.frame f).state = .active → (∀ h : HeadId, ¬affected h) →
      ((∃ (i : Nat) (h : HeadId), (s.frame f).marks[i]? = some (.reserved h)) →
        exec (.close f) s = .next ({ s with mem := writeWord s.mem base 3#32 }.setFrame f { s.frame f with state := .close })) ∧
      ((∀ (i : Nat) (h : HeadId), (s.frame f).marks[i]? ≠ some (.reserved h)) →
        s.noTakers ∨ s.control.state = .held ∨ s.control.state = .drained ∨ s.control.state = .halted →
        ∃ t : State, exec (.close f) s = .next t ∧
          t = { s with mem := t.mem, regs := t.regs, outbox := t.outbox, trays := t.trays, choices := t.choices } ∧
          (∀ k : FrameId, k ≠ f → t.frame k = s.frame k) ∧ spent t)) ∧
    (∀ (h : HeadId) (l : Leg) (n : Nat), s.control.state = .run → (s.frame f).state = .active →
      affected h → ¬affected h.other → s.board.queue ≠ [] → s.rail.waiting.get h.other = none →
      (s.head h).legs = [l] → (∃ p : Fin 2, l.location = .input p n) ∨ (∃ p : Fin 8, l.location = .output p n) →
      ∃ t : State, exec (.close f) s = .next t ∧ (t.head h).state = .idle ∧ Dissolved h s t ∧
        t.control = s.control ∧ t.link = s.link ∧
        ((∀ (i : Nat) (g : HeadId), (s.frame f).marks[i]? = some (.reserved g) → g = h ∧ i = n) → spent t) ∧
        ((∃ i : Nat, (s.frame f).marks[i]? = some (.reserved h.other)) →
          (t.frame f).state = .close ∧ readWord t.mem base = 3#32))

/-- A host write to a frame's state word by the table of R128 (R148). FREE on SPENT or REJECTED: the word, the copy and the marks;
the other fields of the frame stay. Narrow writes, and full writes of a value that the held one does not let follow: the word
stays, ERROR_ADDRESS, and, but in UNARMED, the notice, with the station of a frame in use or SPENT. A repeated value has no
effect. -/
def Obligations.FrameWordJudged : Prop :=
  ∀ (s : State) (f : FrameId) (e : BitVec 4) (v : Word), s.atRest →
    let base := 0x4000 + f.val * 0x1000
    let held := readWord s.mem base
    let r := s.frame f
    let refused (t : Host.Outcome State Fault Refusal) : Prop :=
      let noted := { s with regs := { s.regs with errorAddress := BitVec.ofNat 16 base } }
      t = .next (if s.control.state = .unarmed then noted else noted.raise
        { kind := .frameWriteRefused
          station := if r.state = .active ∨ r.state = .close ∨ r.state = .spent then r.copy.map FrameCopy.station
            else none })
    (held = 4#32 ∨ held = 5#32 →
      exec (.frameFree f) s = .next ({ s with mem := writeWord s.mem base 0#32 }.setFrame f
        { state := .free, copy := none, marks := [], done := 0 })) ∧
    (e ≠ 0#4 → e ≠ 0xF#4 → refused (exec (.frameWriteRefused f e v) s)) ∧
    (v ≠ held → ¬(held = 0#32 ∧ v = 1#32) → ¬(held = 2#32 ∧ v = 3#32) →
      ¬((held = 4#32 ∨ held = 5#32) ∧ v = 0#32) → refused (exec (.frameWriteRefused f 0xF#4 v) s)) ∧
    (held ≠ 0#32 → held ≠ 1#32 → refused (exec (.posted f) s)) ∧
    (held ≠ 2#32 → held ≠ 3#32 → refused (exec (.close f) s)) ∧
    (held ≠ 0#32 → held ≠ 4#32 → held ≠ 5#32 → refused (exec (.frameFree f) s)) ∧
    exec (.frameWriteRefused f 0xF#4 held) s = .next s

/-- A host write to a slot's state word (R148, R149, R156). FREE on FILLED: with an empty holding queue the slot is FREE; with
notices waiting the oldest is written there, in all its bytes, and when that empties the queue the selection of the resting
heads and the test of R180 are left as follow-up work (R66, R180); outside DRAINING, and with no head taking work, nothing comes
of it. Narrow and refused writes set ERROR_ADDRESS and do nothing else; a repeated value has no
effect. -/
def Obligations.SlotWordJudged : Prop :=
  ∀ (s : State) (k : SlotId) (e : BitVec 4) (v : Word), s.atRest →
    let base := 0x1000 + k.val * 0x40
    let held := readWord s.mem base
    let noted := { s with regs := { s.regs with errorAddress := BitVec.ofNat 16 base } }
    (held = 1#32 → s.board.queue = [] → exec (.slotFree k) s = .next { s with mem := writeWord s.mem base 0#32 }) ∧
    (∀ (n : Notice) (rest : List Notice), held = 1#32 → s.board.queue = n :: rest →
      ∃ u : State, exec (.slotFree k) s = u.finish ∧
        u = { s with mem := u.mem, regs := u.regs, outbox := u.outbox, board := u.board, agenda := u.agenda } ∧
        u.board.queue = rest ∧ u.board.sequence = s.board.sequence + 1#16 ∧ slotHolds u.mem k n s.board.sequence ∧
        u.regs = { s.regs with
          attention := s.regs.attention ||| 2#6, top := u.regs.top, interrupt := u.regs.interrupt } ∧
        (∀ a : Nat, ¬(base ≤ a ∧ a < base + 0x40) → readByte u.mem a = readByte s.mem a) ∧
        u.agenda = (if rest = [] then [.selectIdle, .drainTest] else []) ∧
        (rest ≠ [] ∨ (s.noTakers ∧ s.control.state ≠ .draining) → exec (.slotFree k) s = .next { u with agenda := [] })) ∧
    (s.runTask .selectIdle = s.selectResting ∧ s.runTask .drainTest = s.drainTest) ∧
    (e ≠ 0#4 → e ≠ 0xF#4 → exec (.slotWriteRefused k e v) s = .next noted) ∧
    (v ≠ held → ¬(held = 1#32 ∧ v = 0#32) → exec (.slotWriteRefused k 0xF#4 v) s = .next noted) ∧
    (held ≠ 0#32 → held ≠ 1#32 → exec (.slotFree k) s = .next noted) ∧
    (held = 0#32 → exec (.slotFree k) s = .next s) ∧
    exec (.slotWriteRefused k 0xF#4 held) s = .next s

/-- A notice arrives (R155, R157): with an empty queue and a FREE slot it is written into the lowest-numbered one, in all its
bytes and with suppressed count 0; otherwise it joins the queue, or, when 8 wait, it is dropped and counted on the newest.
NOTICE is set, of the registers only it, with the top class and the interrupt that come of it, and nothing else but the board,
memory and the interrupt message changes. -/
def Obligations.NoticeArrives : Prop :=
  ∀ (s : State) (n : Notice),
    let t := s.raise n
    let arrived : Notice := { n with time := s.time / 1000 % 2 ^ 32, suppressed := 0 }
    t = { s with mem := t.mem, regs := t.regs, outbox := t.outbox, board := t.board } ∧
    t.regs = { s.regs with attention := s.regs.attention ||| 2#6, top := t.regs.top, interrupt := t.regs.interrupt } ∧
    (∀ k : SlotId, s.board.queue = [] → lowestFree s.mem k →
      t.board.queue = [] ∧ t.board.sequence = s.board.sequence + 1#16 ∧ slotHolds t.mem k arrived s.board.sequence ∧
      ∀ a : Nat, ¬(0x1000 + k.val * 0x40 ≤ a ∧ a < 0x1040 + k.val * 0x40) → readByte t.mem a = readByte s.mem a) ∧
    (s.board.queue ≠ [] ∨ (∀ k : SlotId, readWord s.mem (0x1000 + k.val * 0x40) ≠ 0#32) →
      t.mem = s.mem ∧ t.board.sequence = s.board.sequence ∧
      (s.board.queue.length < 8 → t.board.queue = s.board.queue ++ [arrived]) ∧
      (∀ (q : List Notice) (m : Notice), s.board.queue = q ++ [m] → q.length = 7 →
        t.board.queue = q ++ [{ m with suppressed := min 255 (m.suppressed + 1) }]))

/-! ## The profile calculator and the planner's choices (chapters 3, 4, 5, 7) -/

/-- The move time of one axis (R101): the distance is the absolute difference, and each quotient and the root are rounded up;
and it does not decrease when the distance grows, for one profile (R103). -/
def Obligations.MoveTimeRule : Prop :=
  (∀ a b : Nat, a ≤ b → distance a b = b - a ∧ distance b a = b - a) ∧
  (∀ d v a : Nat, 0 < v → 0 < a →
    (v * v * 1000 ≤ d * a → ∃ x y : Nat, moveTime d v a = x + y ∧
      IsLeast { n : Nat | d * 1000 ≤ n * v } x ∧ IsLeast { n : Nat | v * 1000000 ≤ n * a } y) ∧
    (d * a < v * v * 1000 → ∃ q n : Nat, moveTime d v a = 2 * n ∧
      IsLeast { m : Nat | d * 1000000000 ≤ m * a } q ∧ IsLeast { m : Nat | q ≤ m * m } n)) ∧
  ∀ d e v a : Nat, 10 ≤ v → v ≤ 4000 → 500 ≤ a → a ≤ 60000 → d ≤ e → e ≤ 2000000 → moveTime d v a ≤ moveTime e v a

/-- The computed time is never less than the exact one and exceeds it by less than 3 µs (R102, law 10). The exact time is
d·1000/v + v·1000000/a on the trapezoidal branch and 2·√(d·10⁹/a) on the triangular one; the largest times are 200,020,000 µs,
and 4,000,000 µs on the triangular branch. -/
def Obligations.MoveTimeExact : Prop :=
  ∀ d v a : Nat, d ≤ 2000000 → 10 ≤ v → v ≤ 4000 → 500 ≤ a → a ≤ 60000 →
    let t : ℝ := moveTime d v a
    let exact : ℝ := if v * v * 1000 ≤ d * a then (d : ℝ) * 1000 / v + (v : ℝ) * 1000000 / a
      else 2 * Real.sqrt ((d : ℝ) * 1000000000 / a)
    exact ≤ t ∧ t < exact + 3 ∧ moveTime d v a ≤ 200020000 ∧ (d * a < v * v * 1000 → moveTime d v a ≤ 4000000)

/-- The clearance point (R80, R88): with valid windows and a waiting leg whose target is in its head's window, it clears the
leg, lies in the blocker's window, and is the nearest such X to the leg. -/
def Obligations.ClearancePoint : Prop :=
  ∀ (s : State) (iv : Interval),
    let a := s.cfg.heads.a
    let b := s.cfg.heads.b
    let sep := s.deck.separation
    a.windowLow ≤ a.windowHigh → b.windowLow ≤ b.windowHigh → a.windowLow + sep ≤ b.windowLow →
    a.windowHigh + sep ≤ b.windowHigh →
    (iv.hi ≤ a.windowHigh →
      let x := s.clearance .b iv
      iv.hi + sep ≤ x ∧ b.windowLow ≤ x ∧ x ≤ b.windowHigh ∧
        ∀ z : Nat, iv.hi + sep ≤ z → b.windowLow ≤ z → x ≤ z) ∧
    (b.windowLow ≤ iv.lo →
      let x := s.clearance .a iv
      x + sep ≤ iv.lo ∧ a.windowLow ≤ x ∧ x ≤ a.windowHigh ∧
        ∀ z : Nat, z + sep ≤ iv.lo → z ≤ a.windowHigh → z ≤ x)

/-- Reach, fit and nozzle choice (R37, R57, R95, R97): the target of a nozzle and when it fits, the position of a strip pocket, a
tray pocket and a socket, the lowest EMPTY nozzle that fits for a pick, and for a place the nozzle of the oldest placeable unit
that fits; of equal orders, which no two units have, the lower nozzle's. -/
def Obligations.NozzleChoice : Prop :=
  (∀ (c : Shadow) (h : HeadId) (k : Nozzle) (p t : Point), fitTarget c h k p = some t ↔
    k.val * c.deck.nozzlePitch ≤ p.x ∧ t = ⟨p.x - k.val * c.deck.nozzlePitch, p.y⟩ ∧ t.x ≤ c.deck.railLength ∧
    p.y ≤ c.deck.yTravel ∧ (c.heads.get h).windowLow ≤ t.x ∧ t.x ≤ (c.heads.get h).windowHigh) ∧
  (∀ (c : Shadow) (f : FrameCopy) (n : Nat),
    let at_ (g : Geometry) (columns i : Nat) : Point :=
      ⟨g.originX + i % columns * g.pitchX, g.originY + i / columns * g.pitchY⟩
    (∀ p : Fin 16, stripPosition c p = at_ c.deck.stations[(10 : Fin 11)] 8 p.val) ∧
    (∀ st : Fin 2, f.station = .input st → framePosition c f n = at_ c.deck.stations[st.val] f.columns n) ∧
    (∀ st : Fin 8, f.station = .output st → framePosition c f n = at_ c.deck.stations[st.val + 2] f.columns n) ∧
    ∀ i : Site, socketPosition c i = c.deck.sockets[i]) ∧
  ∀ (s : State) (h : HeadId) (i : Site),
    (∀ (p t : Point) (k : Nozzle), s.pickNozzle h p = some (k, t) ↔ s.slot h k = none ∧ fitTarget s.cfg h k p = some t ∧
      ∀ j : Nozzle, j < k → s.slot h j = none → fitTarget s.cfg h j p = none) ∧
    (∀ p : Point, s.pickNozzle h p = none ↔ ∀ j : Nozzle, s.slot h j = none → fitTarget s.cfg h j p = none) ∧
    let candidate (k : Nozzle) (u : Handle) (r : UnitRecord) (t : Point) : Prop :=
      s.slot h k = some u ∧ s.unit u = some r ∧ (r.state = .fresh ∨ (r.state = .retest ∧ ∀ x ∈ r.attempts, x.site ≠ i)) ∧
      fitTarget s.cfg h k s.deck.sockets[i] = some t
    (∀ c : PlaceChoice, s.placeChoice h i = some c ↔
      ∃ r : UnitRecord, candidate c.nozzle c.unit r c.target ∧ c.order = r.pickOrder.toNat ∧
        ∀ (k : Nozzle) (u : Handle) (q : UnitRecord) (t : Point), candidate k u q t →
          c.order < q.pickOrder.toNat ∨ (c.order = q.pickOrder.toNat ∧ c.nozzle ≤ k)) ∧
    (s.placeChoice h i = none ↔ ∀ (k : Nozzle) (u : Handle) (r : UnitRecord) (t : Point), ¬candidate k u r t)

/-- The requests a head is eligible for and what it would do for each (the table of R68, with R60 to R62): and the best of them
(R68): the highest level, then the earliest raise time, then the lowest site. The UNLOAD level of a latched site is log entry
21. -/
def Obligations.BestRequest : Prop :=
  ∀ (s : State) (h : HeadId),
    (∀ i : Site, s.request i = none → s.offerFor h i = none) ∧
    (∀ (i : Site) (r : Request) (o : Offer), s.request i = some r →
      let level := (s.siteCfg i).level
      let pick := s.pickNozzle h s.deck.sockets[i]
      let holdsPlaceable : Prop := ∃ (k : Nozzle) (u : Handle) (x : UnitRecord), s.slot h k = some u ∧ s.unit u = some x ∧
        (x.state = .fresh ∨ (x.state = .retest ∧ ∀ y ∈ x.attempts, y.site ≠ i))
      s.offerFor h i = some o ↔ o.site = i ∧ o.raised = r.raised ∧
        ((∃ c : PlaceChoice, r.kind = .load ∧ s.placeChoice h i = some c ∧
            o.plan = { kind := .load, level := level, pick := none, place := some c }) ∨
          (∃ (k : Nozzle × Point) (c : PlaceChoice), r.kind = .swap ∧ pick = some k ∧ s.placeChoice h i = some c ∧
            o.plan = { kind := .swap, level := level, pick := some k, place := some c }) ∨
          (∃ k : Nozzle × Point, r.kind = .swap ∧ s.control.state = .draining ∧ ¬holdsPlaceable ∧ pick = some k ∧
            o.plan = { kind := .unload, level := level, pick := some k, place := none }) ∨
          (∃ k : Nozzle × Point, r.kind = .unload ∧ pick = some k ∧
            o.plan = { kind := .unload, level := max level 1, pick := some k, place := none }))) ∧
    (∀ o : Offer, s.bestOffer h = some o → s.offerFor h o.site = some o ∧
      ∀ (j : Site) (p : Offer), s.offerFor h j = some p →
        p.plan.level < o.plan.level ∨ (p.plan.level = o.plan.level ∧
          (o.raised < p.raised ∨ (o.raised = p.raised ∧ o.site ≤ j)))) ∧
    (s.bestOffer h = none → ∀ j : Site, s.offerFor h j = none)

/-- The allocation for a class (R136): the lowest usable pocket of an ACTIVE frame at the first listed station that has one;
none when no listed station has. -/
def Obligations.AllocationRule : Prop :=
  ∀ (s : State) (c : Fin 8),
    let usable (f : FrameId) (n : Fin 8) (i : Nat) : Prop :=
      (s.frame f).state = .active ∧ ∃ k : FrameCopy, (s.frame f).copy = some k ∧ k.station = .output n ∧
        i < k.rows * k.columns ∧ k.occupancy.getLsbD i = false ∧ (s.frame f).marks.getD i .isOpen = .isOpen
    (∀ (f : FrameId) (i : Nat), s.allocate c = some (f, i) →
      ∃ (before after : List (Fin 8)) (n : Fin 8), s.cfg.classes[c] = before ++ n :: after ∧ usable f n i ∧
        (∀ j : Nat, j < i → ¬usable f n j) ∧ ∀ m ∈ before, ∀ (g : FrameId) (j : Nat), ¬usable g m j) ∧
    (s.allocate c = none → ∀ n ∈ s.cfg.classes[c], ∀ (g : FrameId) (j : Nat), ¬usable g n j)

/-- The sources of a FEED leg. The pocket offered on the input side (R132): none with an empty list; the lowest occupied OPEN
pocket of the first frame of the list while that frame is ACTIVE. The leg (R43, R58): the first retest entry that is not
claimed and that an EMPTY nozzle fits, claimed for the head; else, in RUN, the pocket offered when an EMPTY nozzle fits it,
reserved for the head; else none. -/
def Obligations.FeedSources : Prop :=
  (∀ s : State, s.trays.inputs = [] → s.offered = none) ∧
  (∀ (s : State) (f : FrameId) (rest : List FrameId) (c : FrameCopy), s.trays.inputs = f :: rest →
    (s.frame f).copy = some c →
    let waits (i : Nat) : Prop :=
      i < c.rows * c.columns ∧ c.occupancy.getLsbD i = true ∧ (s.frame f).marks.getD i .isOpen = .isOpen
    ((s.frame f).state ≠ .active → s.offered = none) ∧
    ((s.frame f).state = .active →
      (∀ (g : FrameId) (i : Nat), s.offered = some (g, i) ↔ g = f ∧ waits i ∧ ∀ j : Nat, j < i → ¬waits j) ∧
      (s.offered = none ↔ ∀ i : Nat, ¬waits i))) ∧
  ∀ (s : State) (h : HeadId),
    let passed (e : RetestEntry) : Prop := e.claim ≠ none ∨ s.pickNozzle h (stripPosition s.cfg e.pocket) = none
    let leg (k : Nozzle) (t : Point) (at_ : Location) (f : Option FrameId) : Leg :=
      { kind := .pick, nozzle := some k, location := at_, x := t.x, y := t.y, unit := none, frame := f }
    (∀ (before after : List RetestEntry) (e : RetestEntry) (k : Nozzle) (t : Point),
      s.units.retest = before ++ e :: after → (∀ b ∈ before, passed b) → e.claim = none →
      s.pickNozzle h (stripPosition s.cfg e.pocket) = some (k, t) →
      s.feedLeg h = some (s.setRetest (s.units.retest.map fun x => if x.pocket = e.pocket then { x with claim := some h } else x),
        leg k t (.strip e.pocket) none)) ∧
    ((∀ e ∈ s.units.retest, passed e) →
      (∀ (f : FrameId) (i : Nat) (c : FrameCopy) (n : Fin 2), s.control.state = .run → s.offered = some (f, i) →
        (s.frame f).copy = some c → c.station = .input n →
        (∀ (k : Nozzle) (t : Point), s.pickNozzle h (framePosition s.cfg c i) = some (k, t) →
          s.feedLeg h = some (s.setFrame f { s.frame f with marks := (s.frame f).marks.set i (.reserved h) },
            leg k t (.input n i) (some f))) ∧
        (s.pickNozzle h (framePosition s.cfg c i) = none → s.feedLeg h = none)) ∧
      (s.control.state ≠ .run ∨ s.offered = none → s.feedLeg h = none))

/-- Job selection for one head (R66, R67, R69, R71): none for a head that is not IDLE or BIN_WAIT; STOPPED in HOLDING, no job outside
RUN and DRAINING, and none while notices wait; else SORT first, the best request, FEED, SORT, and BIN_WAIT or IDLE, in that
order. With the supply marker and SUPPLY (R59), the BIN latch and BIN (R69), and the job record and legs of a request bound
(R20, R60 to R62, R64, R68). What `bindSort` does is in SortChoice. That the supply marker is evaluated before the leg's claim or
reservation is the model's reading (log entry 12). -/
def Obligations.JobSelection : Prop :=
  ∀ (s : State) (h : HeadId),
    let resting : Prop := (s.head h).state = .idle ∨ (s.head h).state = .binWait
    let working : Prop := s.control.state = .run ∨ s.control.state = .draining
    let holds (p : UnitState → Prop) : Prop :=
      ∃ (k : Nozzle) (u : Handle) (r : UnitRecord), s.slot h k = some u ∧ s.unit u = some r ∧ p r.state
    let deliverable : Prop := ∃ (k : Nozzle) (u : Handle) (r : UnitRecord) (d : Destination) (t : Point),
      s.slot h k = some u ∧ s.unit u = some r ∧ r.state = .tested ∧ s.decide r = some d ∧
        s.destinationTarget h k d = some t
    let sortsFirst : Prop := deliverable ∧
      ((∀ k : Nozzle, s.slot h k ≠ none) ∨ ¬holds fun st => st = .fresh ∨ st = .retest)
    let twoEmpty : Prop := ∃ j k : Nozzle, j ≠ k ∧ s.slot h j = none ∧ s.slot h k = none
    let bound (s : State) (j : Job) (legs : List Leg) : State :=
      (s.setHead h { s.head h with job := some j, legs := legs, binLatch := false }).submit h .bound
    let job (kind : JobKind) (taken : List Handle) : Job :=
      { kind := kind, site := none, level := 0, raised := 0, pickNozzle := none, placeNozzle := none, taken := taken,
        legsDone := 0 }
    let supply : Prop := (∃ e ∈ s.units.retest, e.claim = none) ∨ (s.control.state = .run ∧ s.offered ≠ none)
    let fed : State := s.evaluateSupply
    (¬resting → s.select h = s) ∧
    (resting → s.control.state = .holding → s.select h = (s.setHeadState h .stopped).holdTest) ∧
    (resting → s.control.state ≠ .holding → ¬working → s.select h = s) ∧
    (resting → working → s.board.queue ≠ [] → s.select h = (s.settledHead h).drainTest) ∧
    (resting → working → s.board.queue = [] →
      (sortsFirst → s.select h = s.bindSort h) ∧
      (¬sortsFirst → ∀ o : Offer, s.bestOffer h = some o → s.select h = s.bindOffer h o) ∧
      (¬sortsFirst → s.bestOffer h = none →
        (∀ (t : State) (l : Leg), twoEmpty → fed.feedLeg h = some (t, l) → s.select h = bound t (job .feed []) [l]) ∧
        (¬twoEmpty ∨ fed.feedLeg h = none →
          (deliverable → s.select h = fed.bindSort h) ∧
          (¬deliverable → s.select h = ((fed.restHead h).settledHead h).drainTest)))) ∧
    (fed.planner = { s.planner with supply := fed.planner.supply } ∧ (fed.planner.supply = true ↔ supply) ∧
      (s.planner.supply = true ∧ ¬supply ∧ s.control.state = .run →
        fed.regs.attention = s.regs.attention ||| 32#6) ∧
      (¬(s.planner.supply = true ∧ ¬supply ∧ s.control.state = .run) → fed.regs = s.regs)) ∧
    ((¬(holds fun st => st = .tested) → s.restHead h = s.setHeadState h .idle) ∧
      ((holds fun st => st = .tested) → (s.head h).state = .binWait → s.restHead h = s) ∧
      ((holds fun st => st = .tested) → (s.head h).state = .idle → (s.head h).binLatch = true →
        s.restHead h = s.setHeadState h .binWait) ∧
      ((holds fun st => st = .tested) → (s.head h).state = .idle → (s.head h).binLatch = false →
        s.restHead h = (s.setHead h { s.head h with state := .binWait, binLatch := true }).setFlag .bin)) ∧
    ∀ o : Offer,
      let leg (kind : LegKind) (k : Nozzle) (t : Point) (u : Option Handle) : Leg :=
        { kind := kind, nozzle := some k, location := .socket o.site, x := t.x, y := t.y, unit := u, frame := none }
      s.bindOffer h o = bound ((s.setRequest o.site none).setSocket o.site { s.socket o.site with bound := some h })
        { kind := o.plan.kind, site := some o.site, level := o.plan.level, raised := o.raised,
          pickNozzle := o.plan.pick.map Prod.fst, placeNozzle := o.plan.place.map PlaceChoice.nozzle, taken := [],
          legsDone := 0 }
        ((o.plan.pick.map fun p => leg .pick p.1 p.2 none).toList ++
          (o.plan.place.map fun c => leg .place c.nozzle c.target (some c.unit)).toList)

/-- Sorting. The destination of a TESTED unit (R38): the lowest free strip pocket for a wanted retest with site room, else
what the allocation gives for its class. The unit chosen (R63): deliverable, not taken, the smallest leg time, the lower
nozzle on a tie. The commit (R39, R137): the pocket reserved and the leg made; the fallback made final with its reasons; no
leg when the pocket reserved does not fit, which is released. The job bound, with the first unit taken, its leg submitted
and the bin latch cleared, or gone on with, or ended (R63, R64, R69). That a jam-cleared site counts as room while it recovers,
and that the job's end checks its units before it selects, are the model's choices (log entries 22 and 27). -/
def Obligations.SortChoice : Prop :=
  ∀ (s : State) (h : HeadId),
    let room (r : UnitRecord) : Prop := ∃ i : Site, ((s.socket i).state ≠ .disabled ∧ (s.socket i).state ≠ .locked ∧
      (s.socket i).state ≠ .retired ∧ (s.socket i).state ≠ .jammed) ∧ (s.socket i).stop = .none ∧
      (s.siteCfg i).level ≠ 0 ∧ ∀ x ∈ r.attempts, x.site ≠ i
    let free (p : Fin 16) : Prop := s.stripPocket p = { content := none, reservation := none, blocked := false }
    let lowest (p : Fin 16) : Prop := free p ∧ ∀ q : Fin 16, q < p → ¬free q
    let toPocket (c : Fin 8) : Option Destination := (s.allocate c).map fun a => .pocket a.1 a.2
    (∀ (r : UnitRecord) (c : Fin 8),
      (r.disposition = .cls c → s.decide r = toPocket c) ∧
      (r.disposition = .retestWanted c →
        (∀ p : Fin 16, room r → lowest p → s.decide r = some (.strip p)) ∧
        (¬room r ∨ (∀ p : Fin 16, ¬free p) → s.decide r = toPocket c))) ∧
    (∀ k : Nozzle, (∀ p : Fin 16, s.destinationTarget h k (.strip p) = fitTarget s.cfg h k (stripPosition s.cfg p)) ∧
      ∀ (f : FrameId) (i : Nat) (c : FrameCopy), (s.frame f).copy = some c →
        s.destinationTarget h k (.pocket f i) = fitTarget s.cfg h k (framePosition s.cfg c i)) ∧
    (∀ (taken : List Handle) (out : List Nozzle),
      let ready (k : Nozzle) (u : Handle) (t : Point) : Prop := ∃ (r : UnitRecord) (d : Destination), k ∉ out ∧ u ∉ taken ∧
        s.slot h k = some u ∧ s.unit u = some r ∧ r.state = .tested ∧ s.decide r = some d ∧
        s.destinationTarget h k d = some t
      (∀ (k : Nozzle) (u : Handle), s.nearest h taken out = some (k, u) ↔ ∃ t : Point, ready k u t ∧
        ∀ (j : Nozzle) (v : Handle) (z : Point), ready j v z →
          s.headLegTime h t < s.headLegTime h z ∨ (s.headLegTime h t = s.headLegTime h z ∧ k ≤ j)) ∧
      (s.nearest h taken out = none ↔ ∀ (k : Nozzle) (u : Handle) (t : Point), ¬ready k u t)) ∧
    (∀ (k : Nozzle) (u : Handle) (r : UnitRecord), s.unit u = some r →
      let leg (t : Point) (l : Location) (f : Option FrameId) : Leg :=
        { kind := .place, nozzle := some k, location := l, x := t.x, y := t.y, unit := some u, frame := f }
      (∀ (c : Fin 8) (f : FrameId) (i : Nat) (copy : FrameCopy) (n : Fin 8), s.allocate c = some (f, i) →
        (s.frame f).copy = some copy → copy.station = .output n →
        let kept := s.setFrame f { s.frame f with marks := (s.frame f).marks.set i (.reserved h) }
        (∀ t : Point, s.destinationTarget h k (.pocket f i) = some t →
          s.commitClass h k u c = (kept, some (leg t (.output n i) (some f)))) ∧
        (s.destinationTarget h k (.pocket f i) = none →
          (s.commitClass h k u c).2 = none ∧ (s.commitClass h k u c).1 = kept.releasePocket f i h)) ∧
      (∀ c : Fin 8, s.allocate c = none → s.commitClass h k u c = (s, none)) ∧
      (∀ c : Fin 8, r.disposition = .cls c → s.commit h k u = s.commitClass h k u c) ∧
      (∀ c : Fin 8, r.disposition = .retestWanted c →
        (∀ p : Fin 16, room r → lowest p →
          (∀ t : Point, s.destinationTarget h k (.strip p) = some t → s.commit h k u =
            (s.setStrip p { s.stripPocket p with reservation := some h }, some (leg t (.strip p) none))) ∧
          (s.destinationTarget h k (.strip p) = none → s.commit h k u = (s, none))) ∧
        (∀ full none_ : Bool, (full = true ↔ ∀ p : Fin 16, ¬free p) → (none_ = true ↔ ¬room r) →
          full = true ∨ none_ = true →
          s.commit h k u = (s.setUnit u (some { r with
            disposition := .cls c
            reasons := { r.reasons with
              stripFull := r.reasons.stripFull || full, noSite := r.reasons.noSite || none_ } })).commitClass h k u c))) ∧
    (∀ (j : Job) (t : State) (u : Handle) (l : Leg),
      (s.sortLeg h j.taken 4 [] = (t, some (u, l)) →
        s.sortNext h j = ((t.setHead h { t.head h with job := some { j with taken := j.taken ++ [u] }, legs := [l] })).submit h
          .railWait) ∧
      (s.sortLeg h j.taken 4 [] = (t, none) →
        let left := (t.setHead h { t.head h with job := none, legs := [] }).reroute
        s.sortNext h j = t.endJob h ∧
        (t.control.state = .run ∨ t.control.state = .draining → t.endJob h = (left.setHeadState h .idle).select h) ∧
        (t.control.state ≠ .run → t.control.state ≠ .draining → t.endJob h = (left.setHeadState h .stopped).holdTest)) ∧
      (s.sortLeg h [] 4 [] = (t, some (u, l)) →
        s.bindSort h = ((t.setHead h { t.head h with
          job := some { kind := .sort, site := none, level := 0, raised := 0, pickNozzle := none, placeNozzle := none,
                        taken := [u], legsDone := 0 }
          legs := [l]
          binLatch := false }).submit h .bound)) ∧
      (s.sortLeg h [] 4 [] = (t, none) → s.bindSort h = ((t.restHead h).settledHead h).drainTest)) ∧
    ∀ (taken : List Handle) (n : Nat) (out : List Nozzle),
      (s.nearest h taken out = none → s.sortLeg h taken (n + 1) out = (s, none)) ∧
      ∀ (k : Nozzle) (u : Handle), s.nearest h taken out = some (k, u) →
        (∀ (t : State) (l : Leg), s.commit h k u = (t, some l) → s.sortLeg h taken (n + 1) out = (t, some (u, l))) ∧
        (∀ t : State, s.commit h k u = (t, none) → s.sortLeg h taken (n + 1) out = t.sortLeg h taken n (k :: out))

/-- A request entering the pending set (R66, R70, R72, R73). Selection first; when both resting heads would take the request, the
head of the smaller first-leg time, A on equal times, and then the other. Preemption after: only with the flag set, in RUN or
DRAINING with no notice waiting, of a BOUND head whose LOAD, SWAP or UNLOAD has a lower level; of two such heads the one of the
lower job level, then of the smaller time, then A. The old legs are withdrawn and the old request returned, the new one bound,
and the head's units checked again. With the selection of the resting heads itself, either first where R70 lets either be (a free
choice, log entry 6). -/
def Obligations.Preemption : Prop :=
  ∀ (s : State) (i : Site),
    let mayBind : Prop := (s.control.state = .run ∨ s.control.state = .draining) ∧ s.board.queue = []
    let resting (h : HeadId) : Prop := (s.head h).state = .idle ∨ (s.head h).state = .binWait
    let quicker (oa ob : Offer) (h : HeadId) : Prop :=
      if s.headLegTime .b ob.plan.firstTarget < s.headLegTime .a oa.plan.firstTarget then h = .b else h = .a
    let would (h : HeadId) (o : Offer) : Prop := resting h ∧
      s.sortsFirst h = false ∧ s.bestOffer h = some o ∧ o.site = i
    let better (h : HeadId) (o : Offer) : Prop := ∃ j : Job, (s.head h).state = .bound ∧ (s.head h).job = some j ∧
      (j.kind = .load ∨ j.kind = .swap ∨ j.kind = .unload) ∧ s.offerFor h i = some o ∧ j.level < o.plan.level
    let level (h : HeadId) : Nat := ((s.head h).job.map Job.level).getD 0
    (s.request i = none → s.requestEntered i = s) ∧
    (s.request i ≠ none → s.requestEntered i = (s.selectEntered i).considerPreemption i) ∧
    (∀ (oa ob : Offer) (h : HeadId), mayBind → would .a oa → would .b ob → quicker oa ob h →
      s.selectEntered i = (s.select h).select h.other) ∧
    ((¬mayBind ∨ (∃ h : HeadId, ∀ o : Offer, ¬would h o)) → s.selectEntered i = s.selectResting) ∧
    ((∀ h : HeadId, resting h) →
      ∃ h : HeadId, s.selectResting = ({ s with choices := s.choices + 1 }.select h).select h.other) ∧
    (∀ h : HeadId, resting h → ¬resting h.other → s.selectResting = s.select h) ∧
    ((∀ h : HeadId, ¬resting h) → s.selectResting = s) ∧
    (∀ (p : Plan) (k : Nozzle) (t : Point), p.pick = some (k, t) → p.firstTarget = t) ∧
    (∀ (p : Plan) (c : PlaceChoice), p.pick = none → p.place = some c → p.firstTarget = c.target) ∧
    (s.deck.preemption = false ∨ ¬mayBind ∨ (∀ (h : HeadId) (o : Offer), ¬better h o) → s.considerPreemption i = s) ∧
    (s.deck.preemption = true → mayBind →
      (∀ (h : HeadId) (o : Offer), better h o → (∀ p : Offer, ¬better h.other p) → s.considerPreemption i = s.preempt h o) ∧
      ∀ oa ob : Offer, better .a oa → better .b ob →
        (level .a < level .b → s.considerPreemption i = s.preempt .a oa) ∧
        (level .b < level .a → s.considerPreemption i = s.preempt .b ob) ∧
        (level .a = level .b → (quicker oa ob .a → s.considerPreemption i = s.preempt .a oa) ∧
          (quicker oa ob .b → s.considerPreemption i = s.preempt .b ob))) ∧
    ∀ (h : HeadId) (o : Offer), ∃ w : State, Withdrawn h s w ∧ w.head h = s.head h ∧ w.units.records = s.units.records ∧
      s.preempt h o = (w.bindOffer h o).reroute

/-- The rail arbiter on a leg submitted. Compatible by R79: granted (R82, R83): the reservation, the waiting leg gone, MOVING or
YIELDING, TRAVEL with the profiles of the load state, and its watchdog (R99, R104, R106, R112). Not compatible: it waits, and the
blocking head, by its state, is given a YIELD to the clearance point, or a mutual wait is resolved, or nothing is done (R87 to
R91). A waiting leg examined again (R85). And what a dissolution leaves (R74). -/
def Obligations.RailLegs : Prop :=
  ∀ (s : State) (h : HeadId),
    let hd := s.head h
    let g := h.other
    let working : Prop := s.control.state = .run ∨ s.control.state = .draining
    let apart (iv : Interval) : Prop := ∀ o : Interval, s.rail.reserved.get g = some o →
      (h = .a → iv.hi + s.deck.separation ≤ o.lo) ∧ (h = .b → o.hi + s.deck.separation ≤ iv.lo)
    let swept (x : Nat) : Interval := ⟨min hd.x x, max hd.x x⟩
    let level (h : HeadId) : Nat := ((s.head h).job.map Job.level).getD 0
    (∀ (x y : Nat) (iv : Interval),
      let c := s.cfg.heads.get h
      let px := if hd.load = .loaded then c.loadedX else c.emptyX
      let py := if hd.load = .loaded then c.loadedY else c.emptyY
      let mx := s.cfg.motion[px]
      let my := s.cfg.motion[py]
      let time := max (moveTime (max hd.x x - min hd.x x) mx.velocity mx.acceleration)
          (moveTime (max hd.y y - min hd.y y) my.velocity my.acceleration) + max mx.settle my.settle
      s.grantLeg h x y iv =
        ((((s.setReserved h (some iv)).setWaiting h none).setHead h
            { hd with state := if hd.job.map Job.kind = some .yield then .yielding else .moving }).send
          (.travel h x y px py)).setCommand h
            (.travel x y px py (.running (s.time + (time + (time + 7) / 8 + 20000))))) ∧
    (∀ (l : Leg) (rest : List Leg) (st : HeadState), hd.legs = l :: rest →
      let there := s.setHeadState h st
      let waits := there.setWaiting h (some { x := l.x, y := l.y, swept := swept l.x, level := level h })
      (working → apart (swept l.x) → s.rail.waiting.get g = none →
        s.submit h st = there.grantLeg h l.x l.y (swept l.x)) ∧
      (¬working ∨ ¬apart (swept l.x) →
        ((s.head g).state = .idle ∨ (s.head g).state = .binWait → s.submit h st = waits.giveYield g) ∧
        ((s.head g).state = .bound ∨ (s.head g).state = .railWait → s.rail.waiting.get g ≠ none →
          s.submit h st = waits.mutualWait) ∧
        ((s.head g).state = .bound ∨ (s.head g).state = .railWait → s.rail.waiting.get g = none → s.submit h st = waits) ∧
        ((s.head g).state = .moving ∨ (s.head g).state = .yielding ∨ (s.head g).state = .acting ∨
          (s.head g).state = .socketWait ∨ (s.head g).state = .stopped → s.submit h st = waits))) ∧
    (∀ w : WaitingLeg, s.rail.waiting.get h = some w →
      (working → apart w.swept → s.regrant h = s.grantLeg h w.x w.y w.swept) ∧
      (¬working ∨ ¬apart w.swept → s.regrant h = s) ∧
      (working → apart w.swept → s.settledHead g = (s.grantLeg h w.x w.y w.swept).regrant g) ∧
      (¬working ∨ ¬apart w.swept → (s.head g).state = .idle ∨ (s.head g).state = .binWait →
        s.settledHead g = s.giveYield g)) ∧
    (s.rail.waiting.get h = none → s.regrant h = s ∧ s.settledHead g = s) ∧
    (∀ w : WaitingLeg, s.rail.waiting.get g = some w →
      let x := s.clearance h w.swept
      let l : Leg :=
        { kind := .travel, nozzle := none, location := .clearance x, x := x, y := hd.y, unit := none, frame := none }
      let job : Job :=
        { kind := .yield, site := none, level := 0, raised := 0, pickNozzle := none, placeNozzle := none, taken := [],
          legsDone := 0 }
      let given := s.setHead h { hd with state := .bound, job := some job, legs := [l] }
      working → apart (swept x) →
        (h = .a → w.swept.lo < (swept x).hi + s.deck.separation) → (h = .b → (swept x).lo < w.swept.hi + s.deck.separation) →
        s.giveYield h = given.grantLeg h x hd.y (swept x)) ∧
    (∃ y : HeadId, y = (if level .a < level .b then .a else .b) ∧
      s.mutualWait = (s.dissolve y (s.head y).legs []).giveYield y) ∧
    Dissolved h s (s.dissolve h hd.legs [])

/-! ## What every step keeps -/

/-- Every step keeps the canonical form of exchange memory, which holds the identity block fixed and the range that is not
backed at zero (R146, R172). -/
def Obligations.MemoryFormKept : Prop :=
  (∀ s t : State, Memory.wf s.mem = true → step s = .next t → Memory.wf t.mem = true) ∧
  ∀ m : List Host.Cell, Memory.wf m = true →
    (∀ a : Nat, a < 0x40 → readByte m a = ([0x40#8, 0x73#8, 1#8, 0#8, 32#8, 2#8, 4#8, 12#8, 32#8, 64#8] : List Byte).getD a 0#8) ∧
    ∀ a : Nat, 0x1800 ≤ a → a < 0x4000 → readByte m a = 0#8

/-- Law 1 (R79): the reservations of the two heads stay apart by the separation through every step, each travel goes to a point
of its reservation, and each waiting leg's target lies in its swept interval. -/
def Obligations.HeadsKeptApart : Prop :=
  ∀ s t : State, s.RailSafe → step s = .next t → t.RailSafe

/-- The top class and the interrupt that STATUS shows are true after every step (R151, R154), and the holding queue never holds
more than 8 notices (R155, R157). -/
def Obligations.AttentionAndBoardKept : Prop :=
  (∀ s t : State, s.attentionTrue → step s = .next t → t.attentionTrue) ∧
  ∀ s t : State, s.board.queue.length ≤ 8 → step s = .next t → t.board.queue.length ≤ 8

/-- Law 8 (R131): at most one frame for each station is ACTIVE or CLOSE, through every step; and at every command the activation
list names each frame once, each an input frame ACTIVE or CLOSE, and so at most two. -/
def Obligations.ActivationListKept : Prop :=
  (∀ s t : State, s.trays.distinct → step s = .next t → t.trays.distinct) ∧
  (∀ (c : Instr) (s t : State), s.atRest → s.ListRight → exec c s = .next t → t.ListRight) ∧
  ∀ s : State, s.ListRight → s.trays.inputs.length ≤ 2

/-- The device state changes only by the edges that the command has in the table of R173 (`deviceMoves`; R167, R174 to R181): the
request or report by its own edges, and at any command the completion of a hold or of a drain. Without the premise that no work
is left over it is reached by that table in any number of changes. HALTED is left only by a reset (R182), and in HALTED nothing
is sent but CONTACT, RELEASE and the interrupt message (R124). -/
def Obligations.DeviceStateTable : Prop :=
  ∀ (c : Instr) (s t : State), exec c s = .next t →
    (resets c = true → s.atRest → t.control.state = .unarmed) ∧
    (resets c = false → s.atRest → deviceMoves c s.control.state t.control.state = true) ∧
    (resets c = false → deviceReaches s.control.state t.control.state ∧
      (s.control.state = .halted → t.control.state = .halted ∧ ∃ l : List Message, t.outbox = s.outbox ++ l ∧
        ∀ m ∈ l, m = .interrupt ∨ ∃ i : Site, m = .contact i ∨ m = .release i))

/-- The 7340 writes only its own words of exchange memory (R146): but for a host write of bytes and power, no command changes a
byte outside the notice board, the action flags words of the site records, and in the frames the state word, the reason word,
the list at 0x040 and the pocket results. -/
def Obligations.HostBytesKept : Prop :=
  ∀ (c : Instr) (s t : State), s.atRest → exec c s = .next t → c ≠ .powerOnReset →
    (∀ (o : BitVec 16) (b : List Byte), c ≠ .exchangeMemoryWrite o b) →
    ∀ a : Nat, deviceOwned a = false → readByte t.mem a = readByte s.mem a

/-- A flag stays set until the host clears it or a reset, and LEVELS stand until they are written or power is applied (R153,
R154), at dropped register writes too. That no command touches the queue of commands, at power-on either, is the model's own
form (log entries 1 and 2). -/
def Obligations.FlagsAndLevelsStand : Prop :=
  ∀ (c : Instr) (s t : State), exec c s = .next t →
    t.pending = s.pending ∧
    ((∀ v : Word, c ≠ .attentionClear v) →
      (∀ (o : BitVec 5) (v : Word), c = .registerWriteDropped o 0xF#4 v → o.toNat / 4 ≠ 3) → resets c = false →
      s.regs.attention &&& t.regs.attention = s.regs.attention) ∧
    ((∀ v : Word, c ≠ .levels v) →
      (∀ (o : BitVec 5) (v : Word), c = .registerWriteDropped o 0xF#4 v → o.toNat / 4 ≠ 4) → c ≠ .powerOnReset →
      t.regs.levels = s.regs.levels)

/-- The state after a power-on reset has every property the statements here say each step keeps. -/
def Obligations.ResetHasInvariants : Prop :=
  Memory.wf State.reset.mem = true ∧ State.reset.RailSafe ∧ State.reset.attentionTrue ∧ State.reset.trays.distinct ∧
  State.reset.board.queue.length ≤ 8 ∧ State.reset.atRest ∧ (∀ h : HeadId, (State.reset.head h).legs = []) ∧
  State.reset.ListRight ∧ State.reset.UnitsRight ∧ State.reset.oneRequest ∧ State.reset.LinkRight ∧
  State.reset.RestingRight

/-- A command taken at rest ends at rest: all its follow-up work is done within the model's bound (log entry 7). A head's job has
at most 4 legs (R56), and that stays so. -/
def Obligations.RestKept : Prop :=
  ∀ (c : Instr) (s t : State), s.atRest → (∀ h : HeadId, (s.head h).legs.length ≤ 4) → exec c s = .next t →
    t.atRest ∧ ∀ h : HeadId, (t.head h).legs.length ≤ 4

/-- Laws 3, 4, 6 and 7 (R31, R35, R42): each unit in use is in the one place its record names and each place holds at most one
unit, at most 56 records are in use, a unit has at most three attempts at different sites, and the retest list holds at most 16
entries, of different pockets, each naming a QUEUED unit; with what keeps them, through every step. A unit that is under
test and has an attempt already has RETEST_WANTED. -/
def Obligations.UnitsKept : Prop :=
  (∀ s t : State, s.UnitsRight → step s = .next t → t.UnitsRight) ∧
  ∀ s : State, s.UnitsRight →
    (∀ (u v : Handle) (q r : UnitRecord), s.unit u = some q → s.unit v = some r → q.place = r.place → u = v) ∧
    ((List.finRange 64).filter fun u => (s.unit u).isSome).length ≤ 56 ∧
    s.units.retest.length ≤ 16 ∧
    (∀ e ∈ s.units.retest, ∃ r : UnitRecord, s.unit e.unit = some r ∧ r.state = .queued ∧ r.place = .strip e.pocket) ∧
    ∀ (u : Handle) (r : UnitRecord), s.unit u = some r →
      r.attempts.length ≤ 3 ∧ r.attempts.Pairwise (fun a b => a.site ≠ b.site) ∧
        ∀ i : Site, r.place = .site i → (s.socket i).state = .testing → r.attempts ≠ [] →
          ∃ k : Fin 8, r.disposition = .retestWanted k

/-- Law 9 (R19, R20, R56): a bound site has no pending request, through every step. Law 11 (R125): at every command a head with a
command outstanding is in flight, or the device HALTED, and in HELD both heads are STOPPED, so that no command is
outstanding. And at every command a head at rest has no legs, outside HALTED (R64, R74), and in DRAINED both heads are IDLE
(R76, R180), with no legs and no leg waiting. -/
def Obligations.RequestsAndHeldKept : Prop :=
  (∀ s t : State, s.oneRequest → step s = .next t → t.oneRequest) ∧
  (∀ (c : Instr) (s t : State), s.atRest → s.LinkRight → exec c s = .next t → t.LinkRight) ∧
  (∀ s : State, s.LinkRight → s.control.state = .held → ∀ h : HeadId, s.link.get h = .empty) ∧
  (∀ (c : Instr) (s t : State), s.atRest → s.LinkRight → s.RestingRight → exec c s = .next t → t.RestingRight) ∧
  ∀ s : State, s.LinkRight → s.RestingRight → s.control.state = .drained →
    ∀ h : HeadId, (s.head h).state = .idle ∧ (s.head h).legs = [] ∧ s.rail.waiting.get h = none
end

