-- ==== Sys2Proof/Laws/Memory.lean ====
section
/-! SUPPORT. Laws of exchange memory: a byte read after a write, words, cleared ranges, and the canonical form kept by every
operation. -/

namespace Sys2Proof.Machine

/-! ## One byte -/

theorem readByte_insertCell (m : List Host.Cell) (a b : Nat) (v : Byte) (h : ∀ c ∈ m, c.1 ≠ a) :
    readByte (insertCell m (a, v)) b = if b = a then v else readByte m b := by
  induction m with
  | nil => simp [insertCell, readByte, eq_comm]
  | cons d rest ih =>
    have ih := ih fun c hc => h c (List.mem_cons_of_mem _ hc)
    have hd : d.1 ≠ a := h d (List.mem_cons_self ..)
    unfold insertCell
    by_cases hlt : a < d.1
    · simp only [hlt, if_true, readByte]
      by_cases hb : b = a
      · simp [hb]
      · have : a ≠ b := fun e => hb e.symm
        simp [hb, this]
    · simp only [hlt, if_false, readByte, ih]
      by_cases hb : b = a
      · subst hb; simp [hd]
      · simp [hb]

theorem readByte_filter (m : List Host.Cell) (p : Nat → Bool) (b : Nat) :
    readByte (m.filter fun c => p c.1) b = if p b then readByte m b else background b := by
  induction m with
  | nil => simp [readByte]
  | cons d rest ih =>
    by_cases hd : p d.1
    · simp only [List.filter_cons, hd, if_true, readByte, ih]
      by_cases hb : d.1 = b
      · subst hb; simp [hd]
      · simp [hb]
    · simp only [List.filter_cons, hd, readByte]
      by_cases hb : d.1 = b
      · subst hb; simp_all
      · simp [hb, ih]

/-- One byte read after one byte written: the new value at a writable address, every other byte as before (R146). -/
theorem readByte_writeByte (m : List Host.Cell) (a b : Nat) (v : Byte) :
    readByte (writeByte m a v) b = if b = a ∧ writable a = true then v else readByte m b := by
  unfold writeByte
  by_cases hw : writable a = true
  · simp only [hw, if_true, and_true]
    by_cases hv : v = background a
    · have := readByte_filter m (fun x => x != a) b
      simp only [hv, if_true, this]
      by_cases hb : b = a <;> simp [hb]
    · have hn : ∀ c ∈ m.filter (fun c => c.1 != a), c.1 ≠ a := by
        intro c hc; simpa using (List.mem_filter.mp hc).2
      have := readByte_filter m (fun x => x != a) b
      simp only [hv, if_false, readByte_insertCell _ _ _ _ hn, this]
      by_cases hb : b = a <;> simp [hb]
  · simp [hw]

/-- A cleared range reads as unlisted addresses do; every other byte is as before. -/
theorem readByte_clearRange (m : List Host.Cell) (a n b : Nat) :
    readByte (clearRange m a n) b = if b < a ∨ a + n ≤ b then readByte m b else background b := by
  have := readByte_filter m (fun x => decide (x < a) || decide (a + n ≤ x)) b
  simpa [clearRange] using this

/-! ## Words -/

/-- A byte outside a written word is as before. -/
theorem readByte_writeWord_of_outside (m : List Host.Cell) (a b : Nat) (w : Word) (h : b < a ∨ a + 4 ≤ b) :
    readByte (writeWord m a w) b = readByte m b := by
  simp only [writeWord, readByte_writeByte]
  have h0 : b ≠ a := by omega
  have h1 : b ≠ a + 1 := by omega
  have h2 : b ≠ a + 2 := by omega
  have h3 : b ≠ a + 3 := by omega
  simp [h0, h1, h2, h3]

/-- A word read where it was written. -/
theorem readWord_writeWord (m : List Host.Cell) (a : Nat) (w : Word) (h0 : writable a = true)
    (h1 : writable (a + 1) = true) (h2 : writable (a + 2) = true) (h3 : writable (a + 3) = true) :
    readWord (writeWord m a w) a = w := by
  simp only [readWord, writeWord, readByte_writeByte]
  have joined : w.extractLsb' 24 8 ++ w.extractLsb' 16 8 ++ w.extractLsb' 8 8 ++ w.extractLsb' 0 8 = w := by
    rw [BitVec.extractLsb'_append_extractLsb'_eq_extractLsb' (show 24 = 16 + 8 from rfl),
      BitVec.extractLsb'_append_extractLsb'_eq_extractLsb' (show 16 = 8 + 8 from rfl),
      BitVec.extractLsb'_append_extractLsb'_eq_extractLsb' (show 8 = 0 + 8 from rfl)]
    exact BitVec.extractLsb'_eq_self
  simpa [h0, h1, h2, h3] using joined

/-- A word that shares no byte with a written word is as before. -/
theorem readWord_writeWord_of_apart (m : List Host.Cell) (a b : Nat) (w : Word) (h : b + 4 ≤ a ∨ a + 4 ≤ b) :
    readWord (writeWord m a w) b = readWord m b := by
  simp only [readWord]
  rw [readByte_writeWord_of_outside m a b w (by omega), readByte_writeWord_of_outside m a (b + 1) w (by omega),
    readByte_writeWord_of_outside m a (b + 2) w (by omega), readByte_writeWord_of_outside m a (b + 3) w (by omega)]

/-- A byte outside words written one after the other is as before. -/
theorem readByte_writeWords_of_outside (m : List Host.Cell) (a b : Nat) (ws : List Word)
    (h : b < a ∨ a + 4 * ws.length ≤ b) : readByte (writeWords m a ws) b = readByte m b := by
  induction ws generalizing m a with
  | nil => rfl
  | cons w ws ih =>
    simp only [List.length_cons] at h
    simp only [writeWords]
    rw [ih _ _ (by omega), readByte_writeWord_of_outside _ _ _ _ (by omega)]

/-! ## The canonical form -/

theorem risingFrom_mono {b b' : Nat} {m : List Host.Cell} (hb : b' ≤ b) (h : risingFrom b m = true) :
    risingFrom b' m = true := by
  cases m with
  | nil => rfl
  | cons c rest =>
    simp only [risingFrom, Bool.and_eq_true, decide_eq_true_eq] at h ⊢
    exact ⟨by omega, h.2⟩

theorem risingFrom_filter (p : Host.Cell → Bool) {b : Nat} {m : List Host.Cell} (h : risingFrom b m = true) :
    risingFrom b (m.filter p) = true := by
  induction m generalizing b with
  | nil => rfl
  | cons c rest ih =>
    simp only [risingFrom, Bool.and_eq_true, decide_eq_true_eq] at h
    by_cases hp : p c = true
    · simp only [List.filter_cons, hp, if_true, risingFrom, Bool.and_eq_true, decide_eq_true_eq]
      exact ⟨h.1, ih h.2⟩
    · simp only [List.filter_cons, hp]
      exact risingFrom_mono (by omega) (ih h.2)

theorem risingFrom_insertCell {b a : Nat} {v : Byte} {m : List Host.Cell} (hb : b ≤ a)
    (h : risingFrom b m = true) (hn : ∀ c ∈ m, c.1 ≠ a) : risingFrom b (insertCell m (a, v)) = true := by
  induction m generalizing b with
  | nil => simp [insertCell, risingFrom, hb]
  | cons d rest ih =>
    have hd : d.1 ≠ a := hn d (List.mem_cons_self ..)
    simp only [risingFrom, Bool.and_eq_true, decide_eq_true_eq] at h
    unfold insertCell
    by_cases hlt : a < d.1
    · simp only [hlt, if_true, risingFrom, Bool.and_eq_true, decide_eq_true_eq]
      exact ⟨hb, by omega, h.2⟩
    · simp only [hlt, if_false, risingFrom, Bool.and_eq_true, decide_eq_true_eq]
      exact ⟨h.1, ih (by omega) h.2 fun c hc => hn c (List.mem_cons_of_mem _ hc)⟩

theorem mem_insertCell {c d : Host.Cell} {m : List Host.Cell} : c ∈ insertCell m d ↔ c = d ∨ c ∈ m := by
  induction m with
  | nil => simp [insertCell]
  | cons e rest ih =>
    unfold insertCell
    split
    · simp
    · simp only [List.mem_cons, ih]; tauto

theorem Memory.wf_iff (m : List Host.Cell) :
    Memory.wf m = true ↔ risingFrom 0 m = true ∧ ∀ c ∈ m, writable c.1 = true ∧ c.2 ≠ background c.1 := by
  simp [Memory.wf]

/-- The memory of both resets' values, nothing listed, is in canonical form. -/
theorem Memory.wf_nil : Memory.wf [] = true := rfl

theorem Memory.wf_filter (p : Host.Cell → Bool) {m : List Host.Cell} (h : Memory.wf m = true) :
    Memory.wf (m.filter p) = true := by
  rw [Memory.wf_iff] at h ⊢
  exact ⟨risingFrom_filter p h.1, fun c hc => h.2 c (List.mem_filter.mp hc).1⟩

/-- One byte written keeps the canonical form. -/
theorem Memory.wf_writeByte {m : List Host.Cell} (a : Nat) (v : Byte) (h : Memory.wf m = true) :
    Memory.wf (writeByte m a v) = true := by
  unfold writeByte
  by_cases hw : writable a = true
  · simp only [hw, if_true]
    by_cases hv : v = background a
    · simp only [hv, if_true]; exact Memory.wf_filter _ h
    · simp only [hv, if_false]
      have hf := (Memory.wf_iff _).mp (Memory.wf_filter (fun c => c.1 != a) h)
      rw [Memory.wf_iff]
      refine ⟨risingFrom_insertCell (Nat.zero_le _) hf.1 fun c hc => by simpa using (List.mem_filter.mp hc).2, ?_⟩
      intro c hc
      rcases mem_insertCell.mp hc with rfl | hc
      · exact ⟨hw, hv⟩
      · exact hf.2 c hc
  · simpa [hw] using h

/-- A cleared range keeps the canonical form. -/
theorem Memory.wf_clearRange {m : List Host.Cell} (a n : Nat) (h : Memory.wf m = true) :
    Memory.wf (clearRange m a n) = true := Memory.wf_filter _ h

/-- One word written keeps the canonical form. -/
theorem Memory.wf_writeWord {m : List Host.Cell} (a : Nat) (w : Word) (h : Memory.wf m = true) :
    Memory.wf (writeWord m a w) = true :=
  Memory.wf_writeByte _ _ (Memory.wf_writeByte _ _ (Memory.wf_writeByte _ _ (Memory.wf_writeByte _ _ h)))

/-- Words written one after the other keep the canonical form. -/
theorem Memory.wf_writeWords {m : List Host.Cell} (a : Nat) (ws : List Word) (h : Memory.wf m = true) :
    Memory.wf (writeWords m a ws) = true := by
  induction ws generalizing m a with
  | nil => exact h
  | cons w ws ih => exact ih _ (Memory.wf_writeWord _ _ h)

/-- The enabled bytes of a host's word keep the canonical form. -/
theorem Memory.wf_storeEnabled {m : List Host.Cell} (a : Nat) (e : BitVec 4) (w : Word) (h : Memory.wf m = true) :
    Memory.wf (storeEnabled m a e w) = true := by
  unfold storeEnabled
  generalize [0, 1, 2, 3] = l
  induction l generalizing m with
  | nil => exact h
  | cons j l ih =>
    apply ih
    show Memory.wf (if e.getLsbD j = true then _ else m) = true
    split
    · exact Memory.wf_writeByte _ _ h
    · exact h

/-- An address below every entry reads as an unlisted address does. -/
theorem readByte_of_lt {b a : Nat} {m : List Host.Cell} (h : risingFrom b m = true) (ha : a < b) :
    readByte m a = background a := by
  induction m generalizing b with
  | nil => rfl
  | cons c rest ih =>
    simp only [risingFrom, Bool.and_eq_true, decide_eq_true_eq] at h
    have : c.1 ≠ a := by omega
    simp only [readByte, this, if_false]
    exact ih h.2 (by omega)

/-- In canonical form, an address outside the writable areas reads as an unlisted address does: the identity block holds its
fixed values and the not-backed range reads zero (R146, R172). -/
theorem Memory.readByte_of_not_writable {m : List Host.Cell} (h : Memory.wf m = true) {a : Nat}
    (ha : writable a = false) : readByte m a = background a := by
  replace h := ((Memory.wf_iff m).mp h).2
  induction m with
  | nil => rfl
  | cons c rest ih =>
    have hc := (h c (List.mem_cons_self ..)).1
    have : c.1 ≠ a := fun e => by rw [e, ha] at hc; exact Bool.noConfusion hc
    simp only [readByte, this, if_false]
    exact ih fun d hd => h d (List.mem_cons_of_mem _ hd)

theorem eq_of_readByte_from {b : Nat} {m n : List Host.Cell} (hm : risingFrom b m = true) (hn : risingFrom b n = true)
    (em : ∀ c ∈ m, c.2 ≠ background c.1) (en : ∀ c ∈ n, c.2 ≠ background c.1)
    (h : ∀ a, readByte m a = readByte n a) : m = n := by
  induction m generalizing b n with
  | nil =>
    cases n with
    | nil => rfl
    | cons d n =>
      have := h d.1
      simp only [readByte, if_true] at this
      exact absurd this.symm (en d (List.mem_cons_self ..))
  | cons c m ih =>
    simp only [risingFrom, Bool.and_eq_true, decide_eq_true_eq] at hm
    have hc := h c.1
    simp only [readByte, if_true] at hc
    cases n with
    | nil => exact absurd hc (em c (List.mem_cons_self ..))
    | cons d n =>
      simp only [risingFrom, Bool.and_eq_true, decide_eq_true_eq] at hn
      have hd := h d.1
      simp only [readByte, if_true] at hd hc
      rcases Nat.lt_trichotomy c.1 d.1 with hlt | heq | hgt
      · rw [if_neg (by omega), readByte_of_lt hn.2 (by omega)] at hc
        exact absurd hc (em c (List.mem_cons_self ..))
      · rw [if_pos heq.symm] at hc
        have hcd : c = d := Prod.ext heq hc
        subst hcd
        congr 1
        refine ih hm.2 hn.2 (fun x hx => em x (List.mem_cons_of_mem _ hx)) (fun x hx => en x (List.mem_cons_of_mem _ hx)) ?_
        intro a
        by_cases ha : a = c.1
        · subst ha
          rw [readByte_of_lt hm.2 (by omega), readByte_of_lt hn.2 (by omega)]
        · have := h a
          simpa [readByte, Ne.symm ha] using this
      · rw [if_neg (by omega), readByte_of_lt hm.2 (by omega)] at hd
        exact absurd hd.symm (en d (List.mem_cons_self ..))

/-- Memories in canonical form that read the same everywhere are equal. -/
theorem Memory.eq_of_readByte {m n : List Host.Cell} (hm : Memory.wf m = true) (hn : Memory.wf n = true)
    (h : ∀ a, readByte m a = readByte n a) : m = n := by
  rw [Memory.wf_iff] at hm hn
  exact eq_of_readByte_from hm.1 hn.1 (fun c hc => (hm.2 c hc).2) (fun c hc => (hn.2 c hc).2) h

end Sys2Proof.Machine
end

