-- ==== Sys2Proof/Laws/State.lean ====
section
/-! SUPPORT. What each update of the state leaves alone: one lemma for each field and update, all true by unfolding the update, and
the reads of an indexed record after its update. -/

namespace Sys2Proof.Machine

variable (s : State)

/-! ### `State.setSocket` -/

@[simp] theorem State.setSocket_pending (i : Site) (r : Socket) : (s.setSocket i r).pending = s.pending := rfl
@[simp] theorem State.setSocket_control (i : Site) (r : Socket) : (s.setSocket i r).control = s.control := rfl
@[simp] theorem State.setSocket_regs (i : Site) (r : Socket) : (s.setSocket i r).regs = s.regs := rfl
@[simp] theorem State.setSocket_mem (i : Site) (r : Socket) : (s.setSocket i r).mem = s.mem := rfl
@[simp] theorem State.setSocket_shadow (i : Site) (r : Socket) : (s.setSocket i r).shadow = s.shadow := rfl
@[simp] theorem State.setSocket_units (i : Site) (r : Socket) : (s.setSocket i r).units = s.units := rfl
@[simp] theorem State.setSocket_planner (i : Site) (r : Socket) : (s.setSocket i r).planner = s.planner := rfl
@[simp] theorem State.setSocket_rail (i : Site) (r : Socket) : (s.setSocket i r).rail = s.rail := rfl
@[simp] theorem State.setSocket_link (i : Site) (r : Socket) : (s.setSocket i r).link = s.link := rfl
@[simp] theorem State.setSocket_trays (i : Site) (r : Socket) : (s.setSocket i r).trays = s.trays := rfl
@[simp] theorem State.setSocket_board (i : Site) (r : Socket) : (s.setSocket i r).board = s.board := rfl
@[simp] theorem State.setSocket_time (i : Site) (r : Socket) : (s.setSocket i r).time = s.time := rfl
@[simp] theorem State.setSocket_outbox (i : Site) (r : Socket) : (s.setSocket i r).outbox = s.outbox := rfl
@[simp] theorem State.setSocket_agenda (i : Site) (r : Socket) : (s.setSocket i r).agenda = s.agenda := rfl
@[simp] theorem State.setSocket_trailing (i : Site) (r : Socket) : (s.setSocket i r).trailing = s.trailing := rfl
@[simp] theorem State.setSocket_choices (i : Site) (r : Socket) : (s.setSocket i r).choices = s.choices := rfl

/-! ### `State.setTest` -/

@[simp] theorem State.setTest_pending (i : Site) (r : TestRecord) : (s.setTest i r).pending = s.pending := rfl
@[simp] theorem State.setTest_control (i : Site) (r : TestRecord) : (s.setTest i r).control = s.control := rfl
@[simp] theorem State.setTest_regs (i : Site) (r : TestRecord) : (s.setTest i r).regs = s.regs := rfl
@[simp] theorem State.setTest_mem (i : Site) (r : TestRecord) : (s.setTest i r).mem = s.mem := rfl
@[simp] theorem State.setTest_shadow (i : Site) (r : TestRecord) : (s.setTest i r).shadow = s.shadow := rfl
@[simp] theorem State.setTest_units (i : Site) (r : TestRecord) : (s.setTest i r).units = s.units := rfl
@[simp] theorem State.setTest_planner (i : Site) (r : TestRecord) : (s.setTest i r).planner = s.planner := rfl
@[simp] theorem State.setTest_rail (i : Site) (r : TestRecord) : (s.setTest i r).rail = s.rail := rfl
@[simp] theorem State.setTest_link (i : Site) (r : TestRecord) : (s.setTest i r).link = s.link := rfl
@[simp] theorem State.setTest_trays (i : Site) (r : TestRecord) : (s.setTest i r).trays = s.trays := rfl
@[simp] theorem State.setTest_board (i : Site) (r : TestRecord) : (s.setTest i r).board = s.board := rfl
@[simp] theorem State.setTest_time (i : Site) (r : TestRecord) : (s.setTest i r).time = s.time := rfl
@[simp] theorem State.setTest_outbox (i : Site) (r : TestRecord) : (s.setTest i r).outbox = s.outbox := rfl
@[simp] theorem State.setTest_agenda (i : Site) (r : TestRecord) : (s.setTest i r).agenda = s.agenda := rfl
@[simp] theorem State.setTest_trailing (i : Site) (r : TestRecord) : (s.setTest i r).trailing = s.trailing := rfl
@[simp] theorem State.setTest_choices (i : Site) (r : TestRecord) : (s.setTest i r).choices = s.choices := rfl

/-! ### `State.setUnit` -/

@[simp] theorem State.setUnit_pending (u : Handle) (r : Option UnitRecord) : (s.setUnit u r).pending = s.pending := rfl
@[simp] theorem State.setUnit_control (u : Handle) (r : Option UnitRecord) : (s.setUnit u r).control = s.control := rfl
@[simp] theorem State.setUnit_regs (u : Handle) (r : Option UnitRecord) : (s.setUnit u r).regs = s.regs := rfl
@[simp] theorem State.setUnit_mem (u : Handle) (r : Option UnitRecord) : (s.setUnit u r).mem = s.mem := rfl
@[simp] theorem State.setUnit_shadow (u : Handle) (r : Option UnitRecord) : (s.setUnit u r).shadow = s.shadow := rfl
@[simp] theorem State.setUnit_sites (u : Handle) (r : Option UnitRecord) : (s.setUnit u r).sites = s.sites := rfl
@[simp] theorem State.setUnit_planner (u : Handle) (r : Option UnitRecord) : (s.setUnit u r).planner = s.planner := rfl
@[simp] theorem State.setUnit_rail (u : Handle) (r : Option UnitRecord) : (s.setUnit u r).rail = s.rail := rfl
@[simp] theorem State.setUnit_link (u : Handle) (r : Option UnitRecord) : (s.setUnit u r).link = s.link := rfl
@[simp] theorem State.setUnit_trays (u : Handle) (r : Option UnitRecord) : (s.setUnit u r).trays = s.trays := rfl
@[simp] theorem State.setUnit_board (u : Handle) (r : Option UnitRecord) : (s.setUnit u r).board = s.board := rfl
@[simp] theorem State.setUnit_time (u : Handle) (r : Option UnitRecord) : (s.setUnit u r).time = s.time := rfl
@[simp] theorem State.setUnit_outbox (u : Handle) (r : Option UnitRecord) : (s.setUnit u r).outbox = s.outbox := rfl
@[simp] theorem State.setUnit_agenda (u : Handle) (r : Option UnitRecord) : (s.setUnit u r).agenda = s.agenda := rfl
@[simp] theorem State.setUnit_trailing (u : Handle) (r : Option UnitRecord) : (s.setUnit u r).trailing = s.trailing := rfl
@[simp] theorem State.setUnit_choices (u : Handle) (r : Option UnitRecord) : (s.setUnit u r).choices = s.choices := rfl

/-! ### `State.modUnit` -/

@[simp] theorem State.modUnit_pending (u : Handle) (f : UnitRecord → UnitRecord) : (s.modUnit u f).pending = s.pending := rfl
@[simp] theorem State.modUnit_control (u : Handle) (f : UnitRecord → UnitRecord) : (s.modUnit u f).control = s.control := rfl
@[simp] theorem State.modUnit_regs (u : Handle) (f : UnitRecord → UnitRecord) : (s.modUnit u f).regs = s.regs := rfl
@[simp] theorem State.modUnit_mem (u : Handle) (f : UnitRecord → UnitRecord) : (s.modUnit u f).mem = s.mem := rfl
@[simp] theorem State.modUnit_shadow (u : Handle) (f : UnitRecord → UnitRecord) : (s.modUnit u f).shadow = s.shadow := rfl
@[simp] theorem State.modUnit_sites (u : Handle) (f : UnitRecord → UnitRecord) : (s.modUnit u f).sites = s.sites := rfl
@[simp] theorem State.modUnit_planner (u : Handle) (f : UnitRecord → UnitRecord) : (s.modUnit u f).planner = s.planner := rfl
@[simp] theorem State.modUnit_rail (u : Handle) (f : UnitRecord → UnitRecord) : (s.modUnit u f).rail = s.rail := rfl
@[simp] theorem State.modUnit_link (u : Handle) (f : UnitRecord → UnitRecord) : (s.modUnit u f).link = s.link := rfl
@[simp] theorem State.modUnit_trays (u : Handle) (f : UnitRecord → UnitRecord) : (s.modUnit u f).trays = s.trays := rfl
@[simp] theorem State.modUnit_board (u : Handle) (f : UnitRecord → UnitRecord) : (s.modUnit u f).board = s.board := rfl
@[simp] theorem State.modUnit_time (u : Handle) (f : UnitRecord → UnitRecord) : (s.modUnit u f).time = s.time := rfl
@[simp] theorem State.modUnit_outbox (u : Handle) (f : UnitRecord → UnitRecord) : (s.modUnit u f).outbox = s.outbox := rfl
@[simp] theorem State.modUnit_agenda (u : Handle) (f : UnitRecord → UnitRecord) : (s.modUnit u f).agenda = s.agenda := rfl
@[simp] theorem State.modUnit_trailing (u : Handle) (f : UnitRecord → UnitRecord) : (s.modUnit u f).trailing = s.trailing := rfl
@[simp] theorem State.modUnit_choices (u : Handle) (f : UnitRecord → UnitRecord) : (s.modUnit u f).choices = s.choices := rfl

/-! ### `State.setStrip` -/

@[simp] theorem State.setStrip_pending (p : Fin 16) (r : StripPocket) : (s.setStrip p r).pending = s.pending := rfl
@[simp] theorem State.setStrip_control (p : Fin 16) (r : StripPocket) : (s.setStrip p r).control = s.control := rfl
@[simp] theorem State.setStrip_regs (p : Fin 16) (r : StripPocket) : (s.setStrip p r).regs = s.regs := rfl
@[simp] theorem State.setStrip_mem (p : Fin 16) (r : StripPocket) : (s.setStrip p r).mem = s.mem := rfl
@[simp] theorem State.setStrip_shadow (p : Fin 16) (r : StripPocket) : (s.setStrip p r).shadow = s.shadow := rfl
@[simp] theorem State.setStrip_sites (p : Fin 16) (r : StripPocket) : (s.setStrip p r).sites = s.sites := rfl
@[simp] theorem State.setStrip_planner (p : Fin 16) (r : StripPocket) : (s.setStrip p r).planner = s.planner := rfl
@[simp] theorem State.setStrip_rail (p : Fin 16) (r : StripPocket) : (s.setStrip p r).rail = s.rail := rfl
@[simp] theorem State.setStrip_link (p : Fin 16) (r : StripPocket) : (s.setStrip p r).link = s.link := rfl
@[simp] theorem State.setStrip_trays (p : Fin 16) (r : StripPocket) : (s.setStrip p r).trays = s.trays := rfl
@[simp] theorem State.setStrip_board (p : Fin 16) (r : StripPocket) : (s.setStrip p r).board = s.board := rfl
@[simp] theorem State.setStrip_time (p : Fin 16) (r : StripPocket) : (s.setStrip p r).time = s.time := rfl
@[simp] theorem State.setStrip_outbox (p : Fin 16) (r : StripPocket) : (s.setStrip p r).outbox = s.outbox := rfl
@[simp] theorem State.setStrip_agenda (p : Fin 16) (r : StripPocket) : (s.setStrip p r).agenda = s.agenda := rfl
@[simp] theorem State.setStrip_trailing (p : Fin 16) (r : StripPocket) : (s.setStrip p r).trailing = s.trailing := rfl
@[simp] theorem State.setStrip_choices (p : Fin 16) (r : StripPocket) : (s.setStrip p r).choices = s.choices := rfl

/-! ### `State.setRetest` -/

@[simp] theorem State.setRetest_pending (l : List RetestEntry) : (s.setRetest l).pending = s.pending := rfl
@[simp] theorem State.setRetest_control (l : List RetestEntry) : (s.setRetest l).control = s.control := rfl
@[simp] theorem State.setRetest_regs (l : List RetestEntry) : (s.setRetest l).regs = s.regs := rfl
@[simp] theorem State.setRetest_mem (l : List RetestEntry) : (s.setRetest l).mem = s.mem := rfl
@[simp] theorem State.setRetest_shadow (l : List RetestEntry) : (s.setRetest l).shadow = s.shadow := rfl
@[simp] theorem State.setRetest_sites (l : List RetestEntry) : (s.setRetest l).sites = s.sites := rfl
@[simp] theorem State.setRetest_planner (l : List RetestEntry) : (s.setRetest l).planner = s.planner := rfl
@[simp] theorem State.setRetest_rail (l : List RetestEntry) : (s.setRetest l).rail = s.rail := rfl
@[simp] theorem State.setRetest_link (l : List RetestEntry) : (s.setRetest l).link = s.link := rfl
@[simp] theorem State.setRetest_trays (l : List RetestEntry) : (s.setRetest l).trays = s.trays := rfl
@[simp] theorem State.setRetest_board (l : List RetestEntry) : (s.setRetest l).board = s.board := rfl
@[simp] theorem State.setRetest_time (l : List RetestEntry) : (s.setRetest l).time = s.time := rfl
@[simp] theorem State.setRetest_outbox (l : List RetestEntry) : (s.setRetest l).outbox = s.outbox := rfl
@[simp] theorem State.setRetest_agenda (l : List RetestEntry) : (s.setRetest l).agenda = s.agenda := rfl
@[simp] theorem State.setRetest_trailing (l : List RetestEntry) : (s.setRetest l).trailing = s.trailing := rfl
@[simp] theorem State.setRetest_choices (l : List RetestEntry) : (s.setRetest l).choices = s.choices := rfl

/-! ### `State.setHead` -/

@[simp] theorem State.setHead_pending (h : HeadId) (r : HeadRecord) : (s.setHead h r).pending = s.pending := rfl
@[simp] theorem State.setHead_control (h : HeadId) (r : HeadRecord) : (s.setHead h r).control = s.control := rfl
@[simp] theorem State.setHead_regs (h : HeadId) (r : HeadRecord) : (s.setHead h r).regs = s.regs := rfl
@[simp] theorem State.setHead_mem (h : HeadId) (r : HeadRecord) : (s.setHead h r).mem = s.mem := rfl
@[simp] theorem State.setHead_shadow (h : HeadId) (r : HeadRecord) : (s.setHead h r).shadow = s.shadow := rfl
@[simp] theorem State.setHead_sites (h : HeadId) (r : HeadRecord) : (s.setHead h r).sites = s.sites := rfl
@[simp] theorem State.setHead_units (h : HeadId) (r : HeadRecord) : (s.setHead h r).units = s.units := rfl
@[simp] theorem State.setHead_rail (h : HeadId) (r : HeadRecord) : (s.setHead h r).rail = s.rail := rfl
@[simp] theorem State.setHead_link (h : HeadId) (r : HeadRecord) : (s.setHead h r).link = s.link := rfl
@[simp] theorem State.setHead_trays (h : HeadId) (r : HeadRecord) : (s.setHead h r).trays = s.trays := rfl
@[simp] theorem State.setHead_board (h : HeadId) (r : HeadRecord) : (s.setHead h r).board = s.board := rfl
@[simp] theorem State.setHead_time (h : HeadId) (r : HeadRecord) : (s.setHead h r).time = s.time := rfl
@[simp] theorem State.setHead_outbox (h : HeadId) (r : HeadRecord) : (s.setHead h r).outbox = s.outbox := rfl
@[simp] theorem State.setHead_agenda (h : HeadId) (r : HeadRecord) : (s.setHead h r).agenda = s.agenda := rfl
@[simp] theorem State.setHead_trailing (h : HeadId) (r : HeadRecord) : (s.setHead h r).trailing = s.trailing := rfl
@[simp] theorem State.setHead_choices (h : HeadId) (r : HeadRecord) : (s.setHead h r).choices = s.choices := rfl

/-! ### `State.setHeadState` -/

@[simp] theorem State.setHeadState_pending (h : HeadId) (st : HeadState) : (s.setHeadState h st).pending = s.pending := rfl
@[simp] theorem State.setHeadState_control (h : HeadId) (st : HeadState) : (s.setHeadState h st).control = s.control := rfl
@[simp] theorem State.setHeadState_regs (h : HeadId) (st : HeadState) : (s.setHeadState h st).regs = s.regs := rfl
@[simp] theorem State.setHeadState_mem (h : HeadId) (st : HeadState) : (s.setHeadState h st).mem = s.mem := rfl
@[simp] theorem State.setHeadState_shadow (h : HeadId) (st : HeadState) : (s.setHeadState h st).shadow = s.shadow := rfl
@[simp] theorem State.setHeadState_sites (h : HeadId) (st : HeadState) : (s.setHeadState h st).sites = s.sites := rfl
@[simp] theorem State.setHeadState_units (h : HeadId) (st : HeadState) : (s.setHeadState h st).units = s.units := rfl
@[simp] theorem State.setHeadState_rail (h : HeadId) (st : HeadState) : (s.setHeadState h st).rail = s.rail := rfl
@[simp] theorem State.setHeadState_link (h : HeadId) (st : HeadState) : (s.setHeadState h st).link = s.link := rfl
@[simp] theorem State.setHeadState_trays (h : HeadId) (st : HeadState) : (s.setHeadState h st).trays = s.trays := rfl
@[simp] theorem State.setHeadState_board (h : HeadId) (st : HeadState) : (s.setHeadState h st).board = s.board := rfl
@[simp] theorem State.setHeadState_time (h : HeadId) (st : HeadState) : (s.setHeadState h st).time = s.time := rfl
@[simp] theorem State.setHeadState_outbox (h : HeadId) (st : HeadState) : (s.setHeadState h st).outbox = s.outbox := rfl
@[simp] theorem State.setHeadState_agenda (h : HeadId) (st : HeadState) : (s.setHeadState h st).agenda = s.agenda := rfl
@[simp] theorem State.setHeadState_trailing (h : HeadId) (st : HeadState) : (s.setHeadState h st).trailing = s.trailing := rfl
@[simp] theorem State.setHeadState_choices (h : HeadId) (st : HeadState) : (s.setHeadState h st).choices = s.choices := rfl

/-! ### `State.setSlot` -/

@[simp] theorem State.setSlot_pending (h : HeadId) (k : Nozzle) (u : Option Handle) : (s.setSlot h k u).pending = s.pending := rfl
@[simp] theorem State.setSlot_control (h : HeadId) (k : Nozzle) (u : Option Handle) : (s.setSlot h k u).control = s.control := rfl
@[simp] theorem State.setSlot_regs (h : HeadId) (k : Nozzle) (u : Option Handle) : (s.setSlot h k u).regs = s.regs := rfl
@[simp] theorem State.setSlot_mem (h : HeadId) (k : Nozzle) (u : Option Handle) : (s.setSlot h k u).mem = s.mem := rfl
@[simp] theorem State.setSlot_shadow (h : HeadId) (k : Nozzle) (u : Option Handle) : (s.setSlot h k u).shadow = s.shadow := rfl
@[simp] theorem State.setSlot_sites (h : HeadId) (k : Nozzle) (u : Option Handle) : (s.setSlot h k u).sites = s.sites := rfl
@[simp] theorem State.setSlot_units (h : HeadId) (k : Nozzle) (u : Option Handle) : (s.setSlot h k u).units = s.units := rfl
@[simp] theorem State.setSlot_rail (h : HeadId) (k : Nozzle) (u : Option Handle) : (s.setSlot h k u).rail = s.rail := rfl
@[simp] theorem State.setSlot_link (h : HeadId) (k : Nozzle) (u : Option Handle) : (s.setSlot h k u).link = s.link := rfl
@[simp] theorem State.setSlot_trays (h : HeadId) (k : Nozzle) (u : Option Handle) : (s.setSlot h k u).trays = s.trays := rfl
@[simp] theorem State.setSlot_board (h : HeadId) (k : Nozzle) (u : Option Handle) : (s.setSlot h k u).board = s.board := rfl
@[simp] theorem State.setSlot_time (h : HeadId) (k : Nozzle) (u : Option Handle) : (s.setSlot h k u).time = s.time := rfl
@[simp] theorem State.setSlot_outbox (h : HeadId) (k : Nozzle) (u : Option Handle) : (s.setSlot h k u).outbox = s.outbox := rfl
@[simp] theorem State.setSlot_agenda (h : HeadId) (k : Nozzle) (u : Option Handle) : (s.setSlot h k u).agenda = s.agenda := rfl
@[simp] theorem State.setSlot_trailing (h : HeadId) (k : Nozzle) (u : Option Handle) : (s.setSlot h k u).trailing = s.trailing := rfl
@[simp] theorem State.setSlot_choices (h : HeadId) (k : Nozzle) (u : Option Handle) : (s.setSlot h k u).choices = s.choices := rfl

/-! ### `State.setRequest` -/

@[simp] theorem State.setRequest_pending (i : Site) (r : Option Request) : (s.setRequest i r).pending = s.pending := rfl
@[simp] theorem State.setRequest_control (i : Site) (r : Option Request) : (s.setRequest i r).control = s.control := rfl
@[simp] theorem State.setRequest_regs (i : Site) (r : Option Request) : (s.setRequest i r).regs = s.regs := rfl
@[simp] theorem State.setRequest_mem (i : Site) (r : Option Request) : (s.setRequest i r).mem = s.mem := rfl
@[simp] theorem State.setRequest_shadow (i : Site) (r : Option Request) : (s.setRequest i r).shadow = s.shadow := rfl
@[simp] theorem State.setRequest_sites (i : Site) (r : Option Request) : (s.setRequest i r).sites = s.sites := rfl
@[simp] theorem State.setRequest_units (i : Site) (r : Option Request) : (s.setRequest i r).units = s.units := rfl
@[simp] theorem State.setRequest_rail (i : Site) (r : Option Request) : (s.setRequest i r).rail = s.rail := rfl
@[simp] theorem State.setRequest_link (i : Site) (r : Option Request) : (s.setRequest i r).link = s.link := rfl
@[simp] theorem State.setRequest_trays (i : Site) (r : Option Request) : (s.setRequest i r).trays = s.trays := rfl
@[simp] theorem State.setRequest_board (i : Site) (r : Option Request) : (s.setRequest i r).board = s.board := rfl
@[simp] theorem State.setRequest_time (i : Site) (r : Option Request) : (s.setRequest i r).time = s.time := rfl
@[simp] theorem State.setRequest_outbox (i : Site) (r : Option Request) : (s.setRequest i r).outbox = s.outbox := rfl
@[simp] theorem State.setRequest_agenda (i : Site) (r : Option Request) : (s.setRequest i r).agenda = s.agenda := rfl
@[simp] theorem State.setRequest_trailing (i : Site) (r : Option Request) : (s.setRequest i r).trailing = s.trailing := rfl
@[simp] theorem State.setRequest_choices (i : Site) (r : Option Request) : (s.setRequest i r).choices = s.choices := rfl

/-! ### `State.setReserved` -/

@[simp] theorem State.setReserved_pending (h : HeadId) (iv : Option Interval) : (s.setReserved h iv).pending = s.pending := rfl
@[simp] theorem State.setReserved_control (h : HeadId) (iv : Option Interval) : (s.setReserved h iv).control = s.control := rfl
@[simp] theorem State.setReserved_regs (h : HeadId) (iv : Option Interval) : (s.setReserved h iv).regs = s.regs := rfl
@[simp] theorem State.setReserved_mem (h : HeadId) (iv : Option Interval) : (s.setReserved h iv).mem = s.mem := rfl
@[simp] theorem State.setReserved_shadow (h : HeadId) (iv : Option Interval) : (s.setReserved h iv).shadow = s.shadow := rfl
@[simp] theorem State.setReserved_sites (h : HeadId) (iv : Option Interval) : (s.setReserved h iv).sites = s.sites := rfl
@[simp] theorem State.setReserved_units (h : HeadId) (iv : Option Interval) : (s.setReserved h iv).units = s.units := rfl
@[simp] theorem State.setReserved_planner (h : HeadId) (iv : Option Interval) : (s.setReserved h iv).planner = s.planner := rfl
@[simp] theorem State.setReserved_link (h : HeadId) (iv : Option Interval) : (s.setReserved h iv).link = s.link := rfl
@[simp] theorem State.setReserved_trays (h : HeadId) (iv : Option Interval) : (s.setReserved h iv).trays = s.trays := rfl
@[simp] theorem State.setReserved_board (h : HeadId) (iv : Option Interval) : (s.setReserved h iv).board = s.board := rfl
@[simp] theorem State.setReserved_time (h : HeadId) (iv : Option Interval) : (s.setReserved h iv).time = s.time := rfl
@[simp] theorem State.setReserved_outbox (h : HeadId) (iv : Option Interval) : (s.setReserved h iv).outbox = s.outbox := rfl
@[simp] theorem State.setReserved_agenda (h : HeadId) (iv : Option Interval) : (s.setReserved h iv).agenda = s.agenda := rfl
@[simp] theorem State.setReserved_trailing (h : HeadId) (iv : Option Interval) : (s.setReserved h iv).trailing = s.trailing := rfl
@[simp] theorem State.setReserved_choices (h : HeadId) (iv : Option Interval) : (s.setReserved h iv).choices = s.choices := rfl

/-! ### `State.setWaiting` -/

@[simp] theorem State.setWaiting_pending (h : HeadId) (w : Option WaitingLeg) : (s.setWaiting h w).pending = s.pending := rfl
@[simp] theorem State.setWaiting_control (h : HeadId) (w : Option WaitingLeg) : (s.setWaiting h w).control = s.control := rfl
@[simp] theorem State.setWaiting_regs (h : HeadId) (w : Option WaitingLeg) : (s.setWaiting h w).regs = s.regs := rfl
@[simp] theorem State.setWaiting_mem (h : HeadId) (w : Option WaitingLeg) : (s.setWaiting h w).mem = s.mem := rfl
@[simp] theorem State.setWaiting_shadow (h : HeadId) (w : Option WaitingLeg) : (s.setWaiting h w).shadow = s.shadow := rfl
@[simp] theorem State.setWaiting_sites (h : HeadId) (w : Option WaitingLeg) : (s.setWaiting h w).sites = s.sites := rfl
@[simp] theorem State.setWaiting_units (h : HeadId) (w : Option WaitingLeg) : (s.setWaiting h w).units = s.units := rfl
@[simp] theorem State.setWaiting_planner (h : HeadId) (w : Option WaitingLeg) : (s.setWaiting h w).planner = s.planner := rfl
@[simp] theorem State.setWaiting_link (h : HeadId) (w : Option WaitingLeg) : (s.setWaiting h w).link = s.link := rfl
@[simp] theorem State.setWaiting_trays (h : HeadId) (w : Option WaitingLeg) : (s.setWaiting h w).trays = s.trays := rfl
@[simp] theorem State.setWaiting_board (h : HeadId) (w : Option WaitingLeg) : (s.setWaiting h w).board = s.board := rfl
@[simp] theorem State.setWaiting_time (h : HeadId) (w : Option WaitingLeg) : (s.setWaiting h w).time = s.time := rfl
@[simp] theorem State.setWaiting_outbox (h : HeadId) (w : Option WaitingLeg) : (s.setWaiting h w).outbox = s.outbox := rfl
@[simp] theorem State.setWaiting_agenda (h : HeadId) (w : Option WaitingLeg) : (s.setWaiting h w).agenda = s.agenda := rfl
@[simp] theorem State.setWaiting_trailing (h : HeadId) (w : Option WaitingLeg) : (s.setWaiting h w).trailing = s.trailing := rfl
@[simp] theorem State.setWaiting_choices (h : HeadId) (w : Option WaitingLeg) : (s.setWaiting h w).choices = s.choices := rfl

/-! ### `State.setCommand` -/

@[simp] theorem State.setCommand_pending (h : HeadId) (c : CommandRecord) : (s.setCommand h c).pending = s.pending := rfl
@[simp] theorem State.setCommand_control (h : HeadId) (c : CommandRecord) : (s.setCommand h c).control = s.control := rfl
@[simp] theorem State.setCommand_regs (h : HeadId) (c : CommandRecord) : (s.setCommand h c).regs = s.regs := rfl
@[simp] theorem State.setCommand_mem (h : HeadId) (c : CommandRecord) : (s.setCommand h c).mem = s.mem := rfl
@[simp] theorem State.setCommand_shadow (h : HeadId) (c : CommandRecord) : (s.setCommand h c).shadow = s.shadow := rfl
@[simp] theorem State.setCommand_sites (h : HeadId) (c : CommandRecord) : (s.setCommand h c).sites = s.sites := rfl
@[simp] theorem State.setCommand_units (h : HeadId) (c : CommandRecord) : (s.setCommand h c).units = s.units := rfl
@[simp] theorem State.setCommand_planner (h : HeadId) (c : CommandRecord) : (s.setCommand h c).planner = s.planner := rfl
@[simp] theorem State.setCommand_rail (h : HeadId) (c : CommandRecord) : (s.setCommand h c).rail = s.rail := rfl
@[simp] theorem State.setCommand_trays (h : HeadId) (c : CommandRecord) : (s.setCommand h c).trays = s.trays := rfl
@[simp] theorem State.setCommand_board (h : HeadId) (c : CommandRecord) : (s.setCommand h c).board = s.board := rfl
@[simp] theorem State.setCommand_time (h : HeadId) (c : CommandRecord) : (s.setCommand h c).time = s.time := rfl
@[simp] theorem State.setCommand_outbox (h : HeadId) (c : CommandRecord) : (s.setCommand h c).outbox = s.outbox := rfl
@[simp] theorem State.setCommand_agenda (h : HeadId) (c : CommandRecord) : (s.setCommand h c).agenda = s.agenda := rfl
@[simp] theorem State.setCommand_trailing (h : HeadId) (c : CommandRecord) : (s.setCommand h c).trailing = s.trailing := rfl
@[simp] theorem State.setCommand_choices (h : HeadId) (c : CommandRecord) : (s.setCommand h c).choices = s.choices := rfl

/-! ### `State.setFrame` -/

@[simp] theorem State.setFrame_pending (f : FrameId) (r : FrameRecord) : (s.setFrame f r).pending = s.pending := rfl
@[simp] theorem State.setFrame_control (f : FrameId) (r : FrameRecord) : (s.setFrame f r).control = s.control := rfl
@[simp] theorem State.setFrame_regs (f : FrameId) (r : FrameRecord) : (s.setFrame f r).regs = s.regs := rfl
@[simp] theorem State.setFrame_mem (f : FrameId) (r : FrameRecord) : (s.setFrame f r).mem = s.mem := rfl
@[simp] theorem State.setFrame_shadow (f : FrameId) (r : FrameRecord) : (s.setFrame f r).shadow = s.shadow := rfl
@[simp] theorem State.setFrame_sites (f : FrameId) (r : FrameRecord) : (s.setFrame f r).sites = s.sites := rfl
@[simp] theorem State.setFrame_units (f : FrameId) (r : FrameRecord) : (s.setFrame f r).units = s.units := rfl
@[simp] theorem State.setFrame_planner (f : FrameId) (r : FrameRecord) : (s.setFrame f r).planner = s.planner := rfl
@[simp] theorem State.setFrame_rail (f : FrameId) (r : FrameRecord) : (s.setFrame f r).rail = s.rail := rfl
@[simp] theorem State.setFrame_link (f : FrameId) (r : FrameRecord) : (s.setFrame f r).link = s.link := rfl
@[simp] theorem State.setFrame_board (f : FrameId) (r : FrameRecord) : (s.setFrame f r).board = s.board := rfl
@[simp] theorem State.setFrame_time (f : FrameId) (r : FrameRecord) : (s.setFrame f r).time = s.time := rfl
@[simp] theorem State.setFrame_outbox (f : FrameId) (r : FrameRecord) : (s.setFrame f r).outbox = s.outbox := rfl
@[simp] theorem State.setFrame_agenda (f : FrameId) (r : FrameRecord) : (s.setFrame f r).agenda = s.agenda := rfl
@[simp] theorem State.setFrame_trailing (f : FrameId) (r : FrameRecord) : (s.setFrame f r).trailing = s.trailing := rfl
@[simp] theorem State.setFrame_choices (f : FrameId) (r : FrameRecord) : (s.setFrame f r).choices = s.choices := rfl

/-! ### `State.setMem` -/

@[simp] theorem State.setMem_pending (m : List Host.Cell) : (s.setMem m).pending = s.pending := rfl
@[simp] theorem State.setMem_control (m : List Host.Cell) : (s.setMem m).control = s.control := rfl
@[simp] theorem State.setMem_regs (m : List Host.Cell) : (s.setMem m).regs = s.regs := rfl
@[simp] theorem State.setMem_shadow (m : List Host.Cell) : (s.setMem m).shadow = s.shadow := rfl
@[simp] theorem State.setMem_sites (m : List Host.Cell) : (s.setMem m).sites = s.sites := rfl
@[simp] theorem State.setMem_units (m : List Host.Cell) : (s.setMem m).units = s.units := rfl
@[simp] theorem State.setMem_planner (m : List Host.Cell) : (s.setMem m).planner = s.planner := rfl
@[simp] theorem State.setMem_rail (m : List Host.Cell) : (s.setMem m).rail = s.rail := rfl
@[simp] theorem State.setMem_link (m : List Host.Cell) : (s.setMem m).link = s.link := rfl
@[simp] theorem State.setMem_trays (m : List Host.Cell) : (s.setMem m).trays = s.trays := rfl
@[simp] theorem State.setMem_board (m : List Host.Cell) : (s.setMem m).board = s.board := rfl
@[simp] theorem State.setMem_time (m : List Host.Cell) : (s.setMem m).time = s.time := rfl
@[simp] theorem State.setMem_outbox (m : List Host.Cell) : (s.setMem m).outbox = s.outbox := rfl
@[simp] theorem State.setMem_agenda (m : List Host.Cell) : (s.setMem m).agenda = s.agenda := rfl
@[simp] theorem State.setMem_trailing (m : List Host.Cell) : (s.setMem m).trailing = s.trailing := rfl
@[simp] theorem State.setMem_choices (m : List Host.Cell) : (s.setMem m).choices = s.choices := rfl

/-! ### `State.poke` -/

@[simp] theorem State.poke_pending (a : Nat) (w : Word) : (s.poke a w).pending = s.pending := rfl
@[simp] theorem State.poke_control (a : Nat) (w : Word) : (s.poke a w).control = s.control := rfl
@[simp] theorem State.poke_regs (a : Nat) (w : Word) : (s.poke a w).regs = s.regs := rfl
@[simp] theorem State.poke_shadow (a : Nat) (w : Word) : (s.poke a w).shadow = s.shadow := rfl
@[simp] theorem State.poke_sites (a : Nat) (w : Word) : (s.poke a w).sites = s.sites := rfl
@[simp] theorem State.poke_units (a : Nat) (w : Word) : (s.poke a w).units = s.units := rfl
@[simp] theorem State.poke_planner (a : Nat) (w : Word) : (s.poke a w).planner = s.planner := rfl
@[simp] theorem State.poke_rail (a : Nat) (w : Word) : (s.poke a w).rail = s.rail := rfl
@[simp] theorem State.poke_link (a : Nat) (w : Word) : (s.poke a w).link = s.link := rfl
@[simp] theorem State.poke_trays (a : Nat) (w : Word) : (s.poke a w).trays = s.trays := rfl
@[simp] theorem State.poke_board (a : Nat) (w : Word) : (s.poke a w).board = s.board := rfl
@[simp] theorem State.poke_time (a : Nat) (w : Word) : (s.poke a w).time = s.time := rfl
@[simp] theorem State.poke_outbox (a : Nat) (w : Word) : (s.poke a w).outbox = s.outbox := rfl
@[simp] theorem State.poke_agenda (a : Nat) (w : Word) : (s.poke a w).agenda = s.agenda := rfl
@[simp] theorem State.poke_trailing (a : Nat) (w : Word) : (s.poke a w).trailing = s.trailing := rfl
@[simp] theorem State.poke_choices (a : Nat) (w : Word) : (s.poke a w).choices = s.choices := rfl

/-! ### `State.setDevice` -/

@[simp] theorem State.setDevice_pending (d : DeviceState) : (s.setDevice d).pending = s.pending := rfl
@[simp] theorem State.setDevice_regs (d : DeviceState) : (s.setDevice d).regs = s.regs := rfl
@[simp] theorem State.setDevice_mem (d : DeviceState) : (s.setDevice d).mem = s.mem := rfl
@[simp] theorem State.setDevice_shadow (d : DeviceState) : (s.setDevice d).shadow = s.shadow := rfl
@[simp] theorem State.setDevice_sites (d : DeviceState) : (s.setDevice d).sites = s.sites := rfl
@[simp] theorem State.setDevice_units (d : DeviceState) : (s.setDevice d).units = s.units := rfl
@[simp] theorem State.setDevice_planner (d : DeviceState) : (s.setDevice d).planner = s.planner := rfl
@[simp] theorem State.setDevice_rail (d : DeviceState) : (s.setDevice d).rail = s.rail := rfl
@[simp] theorem State.setDevice_link (d : DeviceState) : (s.setDevice d).link = s.link := rfl
@[simp] theorem State.setDevice_trays (d : DeviceState) : (s.setDevice d).trays = s.trays := rfl
@[simp] theorem State.setDevice_board (d : DeviceState) : (s.setDevice d).board = s.board := rfl
@[simp] theorem State.setDevice_time (d : DeviceState) : (s.setDevice d).time = s.time := rfl
@[simp] theorem State.setDevice_outbox (d : DeviceState) : (s.setDevice d).outbox = s.outbox := rfl
@[simp] theorem State.setDevice_agenda (d : DeviceState) : (s.setDevice d).agenda = s.agenda := rfl
@[simp] theorem State.setDevice_trailing (d : DeviceState) : (s.setDevice d).trailing = s.trailing := rfl
@[simp] theorem State.setDevice_choices (d : DeviceState) : (s.setDevice d).choices = s.choices := rfl

/-! ### `State.push` -/

@[simp] theorem State.push_pending (t : Task) : (s.push t).pending = s.pending := rfl
@[simp] theorem State.push_control (t : Task) : (s.push t).control = s.control := rfl
@[simp] theorem State.push_regs (t : Task) : (s.push t).regs = s.regs := rfl
@[simp] theorem State.push_mem (t : Task) : (s.push t).mem = s.mem := rfl
@[simp] theorem State.push_shadow (t : Task) : (s.push t).shadow = s.shadow := rfl
@[simp] theorem State.push_sites (t : Task) : (s.push t).sites = s.sites := rfl
@[simp] theorem State.push_units (t : Task) : (s.push t).units = s.units := rfl
@[simp] theorem State.push_planner (t : Task) : (s.push t).planner = s.planner := rfl
@[simp] theorem State.push_rail (t : Task) : (s.push t).rail = s.rail := rfl
@[simp] theorem State.push_link (t : Task) : (s.push t).link = s.link := rfl
@[simp] theorem State.push_trays (t : Task) : (s.push t).trays = s.trays := rfl
@[simp] theorem State.push_board (t : Task) : (s.push t).board = s.board := rfl
@[simp] theorem State.push_time (t : Task) : (s.push t).time = s.time := rfl
@[simp] theorem State.push_outbox (t : Task) : (s.push t).outbox = s.outbox := rfl
@[simp] theorem State.push_trailing (t : Task) : (s.push t).trailing = s.trailing := rfl
@[simp] theorem State.push_choices (t : Task) : (s.push t).choices = s.choices := rfl

/-! ### `State.pushTrailing` -/

@[simp] theorem State.pushTrailing_pending (t : Task) : (s.pushTrailing t).pending = s.pending := rfl
@[simp] theorem State.pushTrailing_control (t : Task) : (s.pushTrailing t).control = s.control := rfl
@[simp] theorem State.pushTrailing_regs (t : Task) : (s.pushTrailing t).regs = s.regs := rfl
@[simp] theorem State.pushTrailing_mem (t : Task) : (s.pushTrailing t).mem = s.mem := rfl
@[simp] theorem State.pushTrailing_shadow (t : Task) : (s.pushTrailing t).shadow = s.shadow := rfl
@[simp] theorem State.pushTrailing_sites (t : Task) : (s.pushTrailing t).sites = s.sites := rfl
@[simp] theorem State.pushTrailing_units (t : Task) : (s.pushTrailing t).units = s.units := rfl
@[simp] theorem State.pushTrailing_planner (t : Task) : (s.pushTrailing t).planner = s.planner := rfl
@[simp] theorem State.pushTrailing_rail (t : Task) : (s.pushTrailing t).rail = s.rail := rfl
@[simp] theorem State.pushTrailing_link (t : Task) : (s.pushTrailing t).link = s.link := rfl
@[simp] theorem State.pushTrailing_trays (t : Task) : (s.pushTrailing t).trays = s.trays := rfl
@[simp] theorem State.pushTrailing_board (t : Task) : (s.pushTrailing t).board = s.board := rfl
@[simp] theorem State.pushTrailing_time (t : Task) : (s.pushTrailing t).time = s.time := rfl
@[simp] theorem State.pushTrailing_outbox (t : Task) : (s.pushTrailing t).outbox = s.outbox := rfl
@[simp] theorem State.pushTrailing_agenda (t : Task) : (s.pushTrailing t).agenda = s.agenda := rfl
@[simp] theorem State.pushTrailing_choices (t : Task) : (s.pushTrailing t).choices = s.choices := rfl

/-! ### `State.reach` -/

@[simp] theorem State.reach_pending (n : Nat) : (s.reach n).pending = s.pending := rfl
@[simp] theorem State.reach_control (n : Nat) : (s.reach n).control = s.control := rfl
@[simp] theorem State.reach_regs (n : Nat) : (s.reach n).regs = s.regs := rfl
@[simp] theorem State.reach_mem (n : Nat) : (s.reach n).mem = s.mem := rfl
@[simp] theorem State.reach_shadow (n : Nat) : (s.reach n).shadow = s.shadow := rfl
@[simp] theorem State.reach_sites (n : Nat) : (s.reach n).sites = s.sites := rfl
@[simp] theorem State.reach_units (n : Nat) : (s.reach n).units = s.units := rfl
@[simp] theorem State.reach_planner (n : Nat) : (s.reach n).planner = s.planner := rfl
@[simp] theorem State.reach_rail (n : Nat) : (s.reach n).rail = s.rail := rfl
@[simp] theorem State.reach_link (n : Nat) : (s.reach n).link = s.link := rfl
@[simp] theorem State.reach_trays (n : Nat) : (s.reach n).trays = s.trays := rfl
@[simp] theorem State.reach_board (n : Nat) : (s.reach n).board = s.board := rfl
@[simp] theorem State.reach_outbox (n : Nat) : (s.reach n).outbox = s.outbox := rfl
@[simp] theorem State.reach_agenda (n : Nat) : (s.reach n).agenda = s.agenda := rfl
@[simp] theorem State.reach_trailing (n : Nat) : (s.reach n).trailing = s.trailing := rfl
@[simp] theorem State.reach_choices (n : Nat) : (s.reach n).choices = s.choices := rfl

/-! ### `State.send` -/

@[simp] theorem State.send_pending (m : Message) : (s.send m).pending = s.pending := rfl
@[simp] theorem State.send_control (m : Message) : (s.send m).control = s.control := rfl
@[simp] theorem State.send_regs (m : Message) : (s.send m).regs = s.regs := rfl
@[simp] theorem State.send_mem (m : Message) : (s.send m).mem = s.mem := rfl
@[simp] theorem State.send_shadow (m : Message) : (s.send m).shadow = s.shadow := rfl
@[simp] theorem State.send_sites (m : Message) : (s.send m).sites = s.sites := rfl
@[simp] theorem State.send_units (m : Message) : (s.send m).units = s.units := rfl
@[simp] theorem State.send_planner (m : Message) : (s.send m).planner = s.planner := rfl
@[simp] theorem State.send_rail (m : Message) : (s.send m).rail = s.rail := rfl
@[simp] theorem State.send_link (m : Message) : (s.send m).link = s.link := rfl
@[simp] theorem State.send_trays (m : Message) : (s.send m).trays = s.trays := rfl
@[simp] theorem State.send_board (m : Message) : (s.send m).board = s.board := rfl
@[simp] theorem State.send_time (m : Message) : (s.send m).time = s.time := rfl
@[simp] theorem State.send_agenda (m : Message) : (s.send m).agenda = s.agenda := rfl
@[simp] theorem State.send_trailing (m : Message) : (s.send m).trailing = s.trailing := rfl
@[simp] theorem State.send_choices (m : Message) : (s.send m).choices = s.choices := rfl

/-! ### `State.setResult` -/

@[simp] theorem State.setResult_pending (n : Nat) : (s.setResult n).pending = s.pending := rfl
@[simp] theorem State.setResult_control (n : Nat) : (s.setResult n).control = s.control := rfl
@[simp] theorem State.setResult_mem (n : Nat) : (s.setResult n).mem = s.mem := rfl
@[simp] theorem State.setResult_shadow (n : Nat) : (s.setResult n).shadow = s.shadow := rfl
@[simp] theorem State.setResult_sites (n : Nat) : (s.setResult n).sites = s.sites := rfl
@[simp] theorem State.setResult_units (n : Nat) : (s.setResult n).units = s.units := rfl
@[simp] theorem State.setResult_planner (n : Nat) : (s.setResult n).planner = s.planner := rfl
@[simp] theorem State.setResult_rail (n : Nat) : (s.setResult n).rail = s.rail := rfl
@[simp] theorem State.setResult_link (n : Nat) : (s.setResult n).link = s.link := rfl
@[simp] theorem State.setResult_trays (n : Nat) : (s.setResult n).trays = s.trays := rfl
@[simp] theorem State.setResult_board (n : Nat) : (s.setResult n).board = s.board := rfl
@[simp] theorem State.setResult_time (n : Nat) : (s.setResult n).time = s.time := rfl
@[simp] theorem State.setResult_outbox (n : Nat) : (s.setResult n).outbox = s.outbox := rfl
@[simp] theorem State.setResult_agenda (n : Nat) : (s.setResult n).agenda = s.agenda := rfl
@[simp] theorem State.setResult_trailing (n : Nat) : (s.setResult n).trailing = s.trailing := rfl
@[simp] theorem State.setResult_choices (n : Nat) : (s.setResult n).choices = s.choices := rfl

/-! ### `State.setErrorAddress` -/

@[simp] theorem State.setErrorAddress_pending (n : Nat) : (s.setErrorAddress n).pending = s.pending := rfl
@[simp] theorem State.setErrorAddress_control (n : Nat) : (s.setErrorAddress n).control = s.control := rfl
@[simp] theorem State.setErrorAddress_mem (n : Nat) : (s.setErrorAddress n).mem = s.mem := rfl
@[simp] theorem State.setErrorAddress_shadow (n : Nat) : (s.setErrorAddress n).shadow = s.shadow := rfl
@[simp] theorem State.setErrorAddress_sites (n : Nat) : (s.setErrorAddress n).sites = s.sites := rfl
@[simp] theorem State.setErrorAddress_units (n : Nat) : (s.setErrorAddress n).units = s.units := rfl
@[simp] theorem State.setErrorAddress_planner (n : Nat) : (s.setErrorAddress n).planner = s.planner := rfl
@[simp] theorem State.setErrorAddress_rail (n : Nat) : (s.setErrorAddress n).rail = s.rail := rfl
@[simp] theorem State.setErrorAddress_link (n : Nat) : (s.setErrorAddress n).link = s.link := rfl
@[simp] theorem State.setErrorAddress_trays (n : Nat) : (s.setErrorAddress n).trays = s.trays := rfl
@[simp] theorem State.setErrorAddress_board (n : Nat) : (s.setErrorAddress n).board = s.board := rfl
@[simp] theorem State.setErrorAddress_time (n : Nat) : (s.setErrorAddress n).time = s.time := rfl
@[simp] theorem State.setErrorAddress_outbox (n : Nat) : (s.setErrorAddress n).outbox = s.outbox := rfl
@[simp] theorem State.setErrorAddress_agenda (n : Nat) : (s.setErrorAddress n).agenda = s.agenda := rfl
@[simp] theorem State.setErrorAddress_trailing (n : Nat) : (s.setErrorAddress n).trailing = s.trailing := rfl
@[simp] theorem State.setErrorAddress_choices (n : Nat) : (s.setErrorAddress n).choices = s.choices := rfl

/-! ### `State.setRegisters` -/

@[simp] theorem State.setRegisters_pending (r : Registers) : (s.setRegisters r).pending = s.pending := by
  unfold State.setRegisters; simp only; split <;> rfl
@[simp] theorem State.setRegisters_control (r : Registers) : (s.setRegisters r).control = s.control := by
  unfold State.setRegisters; simp only; split <;> rfl
@[simp] theorem State.setRegisters_mem (r : Registers) : (s.setRegisters r).mem = s.mem := by
  unfold State.setRegisters; simp only; split <;> rfl
@[simp] theorem State.setRegisters_shadow (r : Registers) : (s.setRegisters r).shadow = s.shadow := by
  unfold State.setRegisters; simp only; split <;> rfl
@[simp] theorem State.setRegisters_sites (r : Registers) : (s.setRegisters r).sites = s.sites := by
  unfold State.setRegisters; simp only; split <;> rfl
@[simp] theorem State.setRegisters_units (r : Registers) : (s.setRegisters r).units = s.units := by
  unfold State.setRegisters; simp only; split <;> rfl
@[simp] theorem State.setRegisters_planner (r : Registers) : (s.setRegisters r).planner = s.planner := by
  unfold State.setRegisters; simp only; split <;> rfl
@[simp] theorem State.setRegisters_rail (r : Registers) : (s.setRegisters r).rail = s.rail := by
  unfold State.setRegisters; simp only; split <;> rfl
@[simp] theorem State.setRegisters_link (r : Registers) : (s.setRegisters r).link = s.link := by
  unfold State.setRegisters; simp only; split <;> rfl
@[simp] theorem State.setRegisters_trays (r : Registers) : (s.setRegisters r).trays = s.trays := by
  unfold State.setRegisters; simp only; split <;> rfl
@[simp] theorem State.setRegisters_board (r : Registers) : (s.setRegisters r).board = s.board := by
  unfold State.setRegisters; simp only; split <;> rfl
@[simp] theorem State.setRegisters_time (r : Registers) : (s.setRegisters r).time = s.time := by
  unfold State.setRegisters; simp only; split <;> rfl
@[simp] theorem State.setRegisters_agenda (r : Registers) : (s.setRegisters r).agenda = s.agenda := by
  unfold State.setRegisters; simp only; split <;> rfl
@[simp] theorem State.setRegisters_trailing (r : Registers) : (s.setRegisters r).trailing = s.trailing := by
  unfold State.setRegisters; simp only; split <;> rfl
@[simp] theorem State.setRegisters_choices (r : Registers) : (s.setRegisters r).choices = s.choices := by
  unfold State.setRegisters; simp only; split <;> rfl

/-! ### `State.setFlag` -/

@[simp] theorem State.setFlag_pending (c : AttentionClass) : (s.setFlag c).pending = s.pending := State.setRegisters_pending s _
@[simp] theorem State.setFlag_control (c : AttentionClass) : (s.setFlag c).control = s.control := State.setRegisters_control s _
@[simp] theorem State.setFlag_mem (c : AttentionClass) : (s.setFlag c).mem = s.mem := State.setRegisters_mem s _
@[simp] theorem State.setFlag_shadow (c : AttentionClass) : (s.setFlag c).shadow = s.shadow := State.setRegisters_shadow s _
@[simp] theorem State.setFlag_sites (c : AttentionClass) : (s.setFlag c).sites = s.sites := State.setRegisters_sites s _
@[simp] theorem State.setFlag_units (c : AttentionClass) : (s.setFlag c).units = s.units := State.setRegisters_units s _
@[simp] theorem State.setFlag_planner (c : AttentionClass) : (s.setFlag c).planner = s.planner := State.setRegisters_planner s _
@[simp] theorem State.setFlag_rail (c : AttentionClass) : (s.setFlag c).rail = s.rail := State.setRegisters_rail s _
@[simp] theorem State.setFlag_link (c : AttentionClass) : (s.setFlag c).link = s.link := State.setRegisters_link s _
@[simp] theorem State.setFlag_trays (c : AttentionClass) : (s.setFlag c).trays = s.trays := State.setRegisters_trays s _
@[simp] theorem State.setFlag_board (c : AttentionClass) : (s.setFlag c).board = s.board := State.setRegisters_board s _
@[simp] theorem State.setFlag_time (c : AttentionClass) : (s.setFlag c).time = s.time := State.setRegisters_time s _
@[simp] theorem State.setFlag_agenda (c : AttentionClass) : (s.setFlag c).agenda = s.agenda := State.setRegisters_agenda s _
@[simp] theorem State.setFlag_trailing (c : AttentionClass) : (s.setFlag c).trailing = s.trailing := State.setRegisters_trailing s _
@[simp] theorem State.setFlag_choices (c : AttentionClass) : (s.setFlag c).choices = s.choices := State.setRegisters_choices s _

/-! ### `State.clearFlags` -/

@[simp] theorem State.clearFlags_pending (v : Word) : (s.clearFlags v).pending = s.pending := State.setRegisters_pending s _
@[simp] theorem State.clearFlags_control (v : Word) : (s.clearFlags v).control = s.control := State.setRegisters_control s _
@[simp] theorem State.clearFlags_mem (v : Word) : (s.clearFlags v).mem = s.mem := State.setRegisters_mem s _
@[simp] theorem State.clearFlags_shadow (v : Word) : (s.clearFlags v).shadow = s.shadow := State.setRegisters_shadow s _
@[simp] theorem State.clearFlags_sites (v : Word) : (s.clearFlags v).sites = s.sites := State.setRegisters_sites s _
@[simp] theorem State.clearFlags_units (v : Word) : (s.clearFlags v).units = s.units := State.setRegisters_units s _
@[simp] theorem State.clearFlags_planner (v : Word) : (s.clearFlags v).planner = s.planner := State.setRegisters_planner s _
@[simp] theorem State.clearFlags_rail (v : Word) : (s.clearFlags v).rail = s.rail := State.setRegisters_rail s _
@[simp] theorem State.clearFlags_link (v : Word) : (s.clearFlags v).link = s.link := State.setRegisters_link s _
@[simp] theorem State.clearFlags_trays (v : Word) : (s.clearFlags v).trays = s.trays := State.setRegisters_trays s _
@[simp] theorem State.clearFlags_board (v : Word) : (s.clearFlags v).board = s.board := State.setRegisters_board s _
@[simp] theorem State.clearFlags_time (v : Word) : (s.clearFlags v).time = s.time := State.setRegisters_time s _
@[simp] theorem State.clearFlags_agenda (v : Word) : (s.clearFlags v).agenda = s.agenda := State.setRegisters_agenda s _
@[simp] theorem State.clearFlags_trailing (v : Word) : (s.clearFlags v).trailing = s.trailing := State.setRegisters_trailing s _
@[simp] theorem State.clearFlags_choices (v : Word) : (s.clearFlags v).choices = s.choices := State.setRegisters_choices s _

/-! ### `State.setLevels` -/

@[simp] theorem State.setLevels_pending (v : Word) : (s.setLevels v).pending = s.pending := State.setRegisters_pending s _
@[simp] theorem State.setLevels_control (v : Word) : (s.setLevels v).control = s.control := State.setRegisters_control s _
@[simp] theorem State.setLevels_mem (v : Word) : (s.setLevels v).mem = s.mem := State.setRegisters_mem s _
@[simp] theorem State.setLevels_shadow (v : Word) : (s.setLevels v).shadow = s.shadow := State.setRegisters_shadow s _
@[simp] theorem State.setLevels_sites (v : Word) : (s.setLevels v).sites = s.sites := State.setRegisters_sites s _
@[simp] theorem State.setLevels_units (v : Word) : (s.setLevels v).units = s.units := State.setRegisters_units s _
@[simp] theorem State.setLevels_planner (v : Word) : (s.setLevels v).planner = s.planner := State.setRegisters_planner s _
@[simp] theorem State.setLevels_rail (v : Word) : (s.setLevels v).rail = s.rail := State.setRegisters_rail s _
@[simp] theorem State.setLevels_link (v : Word) : (s.setLevels v).link = s.link := State.setRegisters_link s _
@[simp] theorem State.setLevels_trays (v : Word) : (s.setLevels v).trays = s.trays := State.setRegisters_trays s _
@[simp] theorem State.setLevels_board (v : Word) : (s.setLevels v).board = s.board := State.setRegisters_board s _
@[simp] theorem State.setLevels_time (v : Word) : (s.setLevels v).time = s.time := State.setRegisters_time s _
@[simp] theorem State.setLevels_agenda (v : Word) : (s.setLevels v).agenda = s.agenda := State.setRegisters_agenda s _
@[simp] theorem State.setLevels_trailing (v : Word) : (s.setLevels v).trailing = s.trailing := State.setRegisters_trailing s _
@[simp] theorem State.setLevels_choices (v : Word) : (s.setLevels v).choices = s.choices := State.setRegisters_choices s _

/-! ### `State.setThreshold` -/

@[simp] theorem State.setThreshold_pending (v : BitVec 3) : (s.setThreshold v).pending = s.pending := State.setRegisters_pending s _
@[simp] theorem State.setThreshold_control (v : BitVec 3) : (s.setThreshold v).control = s.control := State.setRegisters_control s _
@[simp] theorem State.setThreshold_mem (v : BitVec 3) : (s.setThreshold v).mem = s.mem := State.setRegisters_mem s _
@[simp] theorem State.setThreshold_shadow (v : BitVec 3) : (s.setThreshold v).shadow = s.shadow := State.setRegisters_shadow s _
@[simp] theorem State.setThreshold_sites (v : BitVec 3) : (s.setThreshold v).sites = s.sites := State.setRegisters_sites s _
@[simp] theorem State.setThreshold_units (v : BitVec 3) : (s.setThreshold v).units = s.units := State.setRegisters_units s _
@[simp] theorem State.setThreshold_planner (v : BitVec 3) : (s.setThreshold v).planner = s.planner := State.setRegisters_planner s _
@[simp] theorem State.setThreshold_rail (v : BitVec 3) : (s.setThreshold v).rail = s.rail := State.setRegisters_rail s _
@[simp] theorem State.setThreshold_link (v : BitVec 3) : (s.setThreshold v).link = s.link := State.setRegisters_link s _
@[simp] theorem State.setThreshold_trays (v : BitVec 3) : (s.setThreshold v).trays = s.trays := State.setRegisters_trays s _
@[simp] theorem State.setThreshold_board (v : BitVec 3) : (s.setThreshold v).board = s.board := State.setRegisters_board s _
@[simp] theorem State.setThreshold_time (v : BitVec 3) : (s.setThreshold v).time = s.time := State.setRegisters_time s _
@[simp] theorem State.setThreshold_agenda (v : BitVec 3) : (s.setThreshold v).agenda = s.agenda := State.setRegisters_agenda s _
@[simp] theorem State.setThreshold_trailing (v : BitVec 3) : (s.setThreshold v).trailing = s.trailing := State.setRegisters_trailing s _
@[simp] theorem State.setThreshold_choices (v : BitVec 3) : (s.setThreshold v).choices = s.choices := State.setRegisters_choices s _

/-! ### The attention unit -/

@[simp] theorem State.setRegisters_regs (r : Registers) :
    (s.setRegisters r).regs = { r with top := topClass r, interrupt := interruptRaised r } := by
  unfold State.setRegisters; simp only; split <;> rfl

theorem State.setRegisters_outbox (r : Registers) :
    (s.setRegisters r).outbox =
      s.outbox ++ (if interruptRaised r && !s.regs.interrupt then [Message.interrupt] else []) := by
  unfold State.setRegisters State.send; simp only; split <;> simp_all

/-! ### Reads of an indexed record after its update -/

theorem Pair.get_set {α : Type} (p : Pair α) (h k : HeadId) (x : α) : (p.set h x).get k = if k = h then x else p.get k := by
  cases h <;> cases k <;> rfl

@[simp] theorem Pair.get_set_self {α : Type} (p : Pair α) (h : HeadId) (x : α) : (p.set h x).get h = x := by
  cases h <;> rfl

@[simp] theorem HeadId.other_other (h : HeadId) : h.other.other = h := by cases h <;> rfl

@[simp] theorem HeadId.other_ne (h : HeadId) : h.other ≠ h := by cases h <;> decide

@[simp] theorem HeadId.ne_other (h : HeadId) : h ≠ h.other := by cases h <;> decide

theorem State.socket_setSocket (i j : Site) (r : Socket) :
    (s.setSocket i r).socket j = if i = j then r else s.socket j := by
  simp [State.socket, State.setSocket, Vector.getElem_set, Fin.ext_iff]

@[simp] theorem State.socket_setSocket_self (i : Site) (r : Socket) : (s.setSocket i r).socket i = r := by
  simp [State.socket_setSocket]

theorem State.test_setTest (i j : Site) (r : TestRecord) : (s.setTest i r).test j = if i = j then r else s.test j := by
  simp [State.test, State.setTest, Vector.getElem_set, Fin.ext_iff]

@[simp] theorem State.test_setTest_self (i : Site) (r : TestRecord) : (s.setTest i r).test i = r := by
  simp [State.test_setTest]

theorem State.unit_setUnit (u v : Handle) (r : Option UnitRecord) :
    (s.setUnit u r).unit v = if u = v then r else s.unit v := by
  simp [State.unit, State.setUnit, Vector.getElem_set, Fin.ext_iff]

theorem State.stripPocket_setStrip (p q : Fin 16) (r : StripPocket) :
    (s.setStrip p r).stripPocket q = if p = q then r else s.stripPocket q := by
  simp [State.stripPocket, State.setStrip, Vector.getElem_set, Fin.ext_iff]

theorem State.request_setRequest (i j : Site) (r : Option Request) :
    (s.setRequest i r).request j = if i = j then r else s.request j := by
  simp [State.request, State.setRequest, Vector.getElem_set, Fin.ext_iff]

theorem State.frame_setFrame (f g : FrameId) (r : FrameRecord) :
    (s.setFrame f r).frame g = if f = g then r else s.frame g := by
  simp [State.frame, State.setFrame, Vector.getElem_set, Fin.ext_iff]

theorem State.head_setHead (h k : HeadId) (r : HeadRecord) :
    (s.setHead h r).head k = if k = h then r else s.head k := by
  simp [State.head, State.setHead, Pair.get_set]

@[simp] theorem State.head_setHead_self (h : HeadId) (r : HeadRecord) : (s.setHead h r).head h = r := by
  simp [State.head_setHead]

theorem State.slot_setSlot (h : HeadId) (k n : Nozzle) (u : Option Handle) :
    (s.setSlot h k u).slot h n = if k = n then u else s.slot h n := by
  simp [State.slot, State.setSlot, Vector.getElem_set, Fin.ext_iff]

end Sys2Proof.Machine
end

