-- ==== Sys2Proof/Laws/Moves.lean ====
section
/-! SUPPORT. What the 7340 can do to its state, said once: `Move` lists the kinds of change any block makes, and `Path` is any
number of them. Laws/Paths.lean shows of every operation that it is a path; what holds of every step then follows from what
holds of each kind of change. -/

namespace Sys2Proof.Machine

/-- The task is a word of a host write. -/
def Task.isHost : Task → Bool
  | .hostWord _ _ _ => true
  | _ => false

/-- A change of exchange memory that the 7340 itself makes: the canonical form is kept, and so is every byte that is not its
own (R146). -/
structure DeviceWrite (m m' : List Host.Cell) : Prop where
  wf : Memory.wf m = true → Memory.wf m' = true
  kept : ∀ a, deviceOwned a = false → readByte m' a = readByte m a

/-- A state with the inner records of another: sockets, test records, units, heads, requests, the supply marker, the time and
the count of free choices. -/
def State.withInner (s t : State) : State :=
  { s with
    sites := t.sites
    units := t.units
    planner := t.planner
    time := t.time
    choices := t.choices }

/-- How much a path may do: the follow-up work of an event, an event itself, or an event with words of a host write. -/
inductive Scope where
  | work | event | host
  deriving DecidableEq, Repr

/-- What is not put in line in a scope: a word of a host write, and in follow-up work the entry to RUN or DRAINING. -/
def Scope.bars (sc : Scope) : Task → Bool
  | .runEntry => sc == .work
  | t => t.isHost

theorem Scope.bars_runEntry {sc : Scope} (h : sc ≠ .work) : sc.bars .runEntry = false := by cases sc <;> first | rfl | exact absurd rfl h

/-- One change of the state. -/
inductive Move (sc : Scope) : State → State → Prop where
  /-- Sockets, test records, units, heads, requests, the supply marker, the time and the count of free choices. -/
  | inner {s t : State} (h : t = s.withInner t) : Move sc s t
  /-- Follow-up work; what the scope bars is never added. -/
  | tasks {s : State} (a l : List Task) (h : ∀ t ∈ a ++ l, sc.bars t = true → t ∈ s.agenda ++ s.trailing) :
      Move sc s { s with agenda := a, trailing := l }
  /-- Frame records and the activation list. -/
  | trays {s : State} (T : TrayBlock) (h : s.trays.distinct → T.distinct) : Move sc s { s with trays := T }
  /-- Exchange memory, written by the 7340. -/
  | mem {s : State} (m : List Host.Cell) (h : DeviceWrite s.mem m) : Move sc s (s.setMem m)
  /-- Exchange memory, written by the host. -/
  | store {s : State} (a : Nat) (e : BitVec 4) (v : Word) (h : sc = .host) :
      Move sc s (s.setMem (storeEnabled s.mem a e v))
  /-- Attention flags set (R153). -/
  | attention {s : State} (f : BitVec 6) (h : s.regs.attention &&& f = s.regs.attention) : Move sc s (s.setRegisters { s.regs with attention := f })
  /-- The result field and ERROR_ADDRESS. -/
  | status {s : State} (r : Byte) (e : BitVec 16) (hv : sc ≠ .work) :
      Move sc s { s with regs := { s.regs with result := r, errorAddress := e } }
  /-- The holding queue and the sequence counter. -/
  | board {s : State} (b : Board) (h : s.board.queue.length ≤ 8 → b.queue.length ≤ 8) : Move sc s { s with board := b }
  /-- A message. -/
  | send {s : State} (m : Message) (h : m.allowedIn s.control.state = true) : Move sc s (s.send m)
  /-- Operating-state control, by the table of R173. -/
  | control {s : State} (c : Control) (hv : sc ≠ .work) (h : c.state = s.control.state ∨ deviceEdge s.control.state c.state = true) :
      Move sc s { s with control := c }
  /-- A hold completes (R177). -/
  | holdDone {s : State} (h : s.control.state = .holding) :
      Move sc s { s with control := { s.control with state := .held, holdAck := true } }
  /-- A drain completes (R180). -/
  | drainDone {s : State} (h : s.control.state = .draining) : Move sc s (s.setDevice .drained)
  /-- A waiting leg placed or withdrawn. -/
  | waiting {s : State} (k : HeadId) (w : Option WaitingLeg) (h : ∀ v, w = some v → v.swept.holds v.x) :
      Move sc s (s.setWaiting k w)
  /-- A travel granted in RUN or DRAINING: the swept interval is compatible and holds the target (R83). -/
  | travel {s : State} (k : HeadId) (x y : Nat) (px py : Fin 4) (dog : Watchdog) (iv : Interval)
      (hw : s.working = true) (hc : s.compatible k iv = true)
      (hx : iv.holds x ∨ ∃ w, s.rail.waiting.get k = some w ∧ w.x = x ∧ w.swept = iv) :
      Move sc s (((s.setReserved k (some iv)).setWaiting k none).setCommand k (.travel x y px py dog))
  /-- A command record that holds no travel. -/
  | command {s : State} (k : HeadId) (c : CommandRecord) (h : ∀ x y px py w, c ≠ .travel x y px py w) :
      Move sc s (s.setCommand k c)
  /-- Both watchdogs stopped. -/
  | stopDogs {s : State} : Move sc s { s with link := ⟨s.link.a.stopDog, s.link.b.stopDog⟩ }
  /-- A travel has arrived (R84, R111). -/
  | arrive {s : State} (k : HeadId) (x y : Nat) (px py : Fin 4) (dog : Watchdog)
      (h : s.link.get k = .travel x y px py dog) :
      Move sc s ((s.setCommand k .empty).setReserved k (some ⟨x, x⟩))
  /-- Shadow copies with the same deck record (R159, R170). -/
  | shadow {s : State} (c : Shadow) (hv : sc ≠ .work) (h : c.deck = s.deck) : Move sc s { s with shadow := some c }
  /-- Steps 1 to 4 of a completed ARM (R167). -/
  | armed {s : State} (hv : sc ≠ .work) (c : Shadow) (pa pb : Point) (hs : s.control.state = .unarmed)
      (hp : positionsFit c.deck pa pb = true) (si : SiteBlock) (u : UnitTable) (p : Planner) (k : Control)
      (hk : k.state = .held) :
      Move sc s
        { s with
          shadow := some c
          time := 0
          sites := si
          units := u
          planner := p
          rail := { reserved := ⟨some ⟨pa.x, pa.x⟩, some ⟨pb.x, pb.x⟩⟩, waiting := ⟨none, none⟩ }
          link := ⟨.empty, .empty⟩
          control := k }

/-- Any number of changes. -/
def Path (sc : Scope) : State → State → Prop := Relation.ReflTransGen (Move sc)

variable {sc : Scope}

theorem Path.refl (s : State) : Path sc s s := Relation.ReflTransGen.refl

theorem Path.trans {s t u : State} (h : Path sc s t) (k : Path sc t u) : Path sc s u :=
  Relation.ReflTransGen.trans h k

theorem Path.one {s t : State} (h : Move sc s t) : Path sc s t := Relation.ReflTransGen.single h

theorem Path.inner {s t : State} (h : t = s.withInner t) : Path sc s t := Path.one (Move.inner h)

/-- A property that every move keeps is kept by a path. -/
theorem Path.keeps {P : State → Prop} (hm : ∀ s t, Move sc s t → P s → P t) {s t : State} (h : Path sc s t)
    (hp : P s) : P t := by
  induction h with
  | refl => exact hp
  | tail _ hst ih => exact hm _ _ hst ih

/-- A relation to the start that every move keeps holds along a path. -/
theorem Path.relates {R : State → State → Prop} {s t : State} (hr : R s s)
    (hm : ∀ t u, Move sc t u → R s t → R s u) (h : Path sc s t) : R s t := by
  induction h with
  | refl => exact hr
  | tail _ hst ih => exact hm _ _ hst ih

theorem Path.foldl {α : Type} (f : State → α → State) (h : ∀ s a, Path sc s (f s a)) (l : List α) (s : State) :
    Path sc s (l.foldl f s) := by
  induction l generalizing s with
  | nil => exact Path.refl s
  | cons a l ih => exact (h s a).trans (ih _)

/-- A scope may do what a smaller one may. -/
def Scope.allows : Scope → Scope → Bool
  | .host, _ => true
  | .event, .host => false
  | .event, _ => true
  | .work, .work => true
  | .work, _ => false

theorem Scope.bars_of_allows {x y : Scope} (h : y.allows x = true) (t : Task) (hb : y.bars t = true) : x.bars t = true := by
  cases x <;> cases y <;> cases t <;> simp_all [Scope.allows, Scope.bars, Task.isHost]

theorem Path.widen {x y : Scope} (hxy : y.allows x = true) {s t : State} (h : Path x s t) : Path y s t := by
  have hw : x ≠ .work → y ≠ .work := by cases x <;> cases y <;> simp_all [Scope.allows]
  induction h with
  | refl => exact Path.refl s
  | tail _ hst ih =>
    refine ih.trans (Path.one ?_)
    cases hst with
    | inner h => exact .inner h
    | tasks a l h => exact .tasks a l fun t ht hb => h t ht (Scope.bars_of_allows hxy t hb)
    | trays T h => exact .trays T h
    | mem m h => exact .mem m h
    | store a e v h => exact .store a e v (by subst h; cases y <;> simp_all [Scope.allows])
    | attention f h => exact .attention f h
    | status r e hv => exact .status r e (hw hv)
    | board b h => exact .board b h
    | send m h => exact .send m h
    | control c hv h => exact .control c (hw hv) h
    | holdDone h => exact .holdDone h
    | drainDone h => exact .drainDone h
    | waiting k w h => exact .waiting k w h
    | travel k x y px py dog iv hw hc hx => exact .travel k x y px py dog iv hw hc hx
    | command k c h => exact .command k c h
    | stopDogs => exact .stopDogs
    | arrive k x y px py dog h => exact .arrive k x y px py dog h
    | shadow c hv h => exact .shadow c (hw hv) h
    | armed hv c pa pb hs hp si u p k hk => exact .armed (hw hv) c pa pb hs hp si u p k hk

/-! ## The 7340's own writes to memory -/

theorem DeviceWrite.refl (m : List Host.Cell) : DeviceWrite m m := ⟨id, fun _ _ => rfl⟩

theorem DeviceWrite.trans {m n p : List Host.Cell} (h : DeviceWrite m n) (k : DeviceWrite n p) : DeviceWrite m p :=
  ⟨fun w => k.wf (h.wf w), fun a ha => (k.kept a ha).trans (h.kept a ha)⟩

theorem DeviceWrite.word (m : List Host.Cell) (a : Nat) (w : Word) (h : ∀ j < 4, deviceOwned (a + j) = true) :
    DeviceWrite m (writeWord m a w) := by
  refine ⟨Memory.wf_writeWord a w, fun b hb => readByte_writeWord_of_outside m a b w ?_⟩
  by_contra hc
  have := h (b - a) (by omega)
  rw [show a + (b - a) = b by omega, hb] at this
  exact Bool.noConfusion this

theorem DeviceWrite.words (m : List Host.Cell) (a : Nat) (ws : List Word)
    (h : ∀ j < 4 * ws.length, deviceOwned (a + j) = true) : DeviceWrite m (writeWords m a ws) := by
  refine ⟨Memory.wf_writeWords a ws, fun b hb => readByte_writeWords_of_outside m a b ws ?_⟩
  by_contra hc
  have := h (b - a) (by omega)
  rw [show a + (b - a) = b by omega, hb] at this
  exact Bool.noConfusion this

theorem DeviceWrite.clear (m : List Host.Cell) (a n : Nat) (h : ∀ j < n, deviceOwned (a + j) = true) :
    DeviceWrite m (clearRange m a n) := by
  refine ⟨Memory.wf_clearRange a n, fun b hb => ?_⟩
  rw [readByte_clearRange]
  by_cases hc : b < a ∨ a + n ≤ b
  · simp [hc]
  · have := h (b - a) (by omega)
    rw [show a + (b - a) = b by omega, hb] at this
    exact Bool.noConfusion this

theorem deviceOwned_board (k : SlotId) (o : Nat) (ho : o < 64) : deviceOwned (Config.slotBase k + o) = true := by
  have hk := k.isLt
  simp only [deviceOwned, Bool.or_eq_true, Bool.and_eq_true, decide_eq_true_eq]
  unfold Config.slotBase
  exact .inl (.inl (by omega))

theorem deviceOwned_frame (f : FrameId) (o : Nat)
    (ho : o < 4 ∨ (0x0C ≤ o ∧ o < 0x10) ∨ (0x40 ≤ o ∧ o < 0xE40)) : deviceOwned (Config.frameBase f + o) = true := by
  have hf := f.isLt
  simp only [deviceOwned, Bool.or_eq_true, Bool.and_eq_true, decide_eq_true_eq]
  unfold Config.frameBase
  refine .inr ⟨by omega, ?_⟩
  omega

theorem deviceOwned_flags (i : Site) (o : Nat) (ho : 8 ≤ o ∧ o < 12) :
    deviceOwned (Config.siteBase i + o) = true := by
  have hi := i.isLt
  simp only [deviceOwned, Bool.or_eq_true, Bool.and_eq_true, decide_eq_true_eq]
  unfold Config.siteBase
  exact .inl (.inr (by omega))

/-! ## Primitive updates as paths -/

section
variable (s : State)

theorem State.setSocket_path (i : Site) (r : Socket) : Path sc s (s.setSocket i r) := Path.inner rfl
theorem State.setTest_path (i : Site) (r : TestRecord) : Path sc s (s.setTest i r) := Path.inner rfl
theorem State.setUnit_path (u : Handle) (r : Option UnitRecord) : Path sc s (s.setUnit u r) := Path.inner rfl
theorem State.modUnit_path (u : Handle) (f : UnitRecord → UnitRecord) : Path sc s (s.modUnit u f) := Path.inner rfl
theorem State.setStrip_path (p : Fin 16) (r : StripPocket) : Path sc s (s.setStrip p r) := Path.inner rfl
theorem State.setRetest_path (l : List RetestEntry) : Path sc s (s.setRetest l) := Path.inner rfl
theorem State.setHead_path (h : HeadId) (r : HeadRecord) : Path sc s (s.setHead h r) := Path.inner rfl
theorem State.setHeadState_path (h : HeadId) (st : HeadState) : Path sc s (s.setHeadState h st) := Path.inner rfl
theorem State.setSlot_path (h : HeadId) (k : Nozzle) (u : Option Handle) : Path sc s (s.setSlot h k u) :=
  Path.inner rfl
theorem State.setRequest_path (i : Site) (r : Option Request) : Path sc s (s.setRequest i r) := Path.inner rfl
theorem State.reach_path (n : Nat) : Path sc s (s.reach n) := Path.inner rfl

theorem State.push_path (t : Task) (h : sc.bars t = false) : Path sc s (s.push t) := by
  refine Path.one (Move.tasks (s.agenda ++ [t]) s.trailing fun x hx hh => ?_)
  simp only [List.mem_append, List.mem_singleton] at hx ⊢
  rcases hx with (hx | rfl) | hx
  · exact .inl hx
  · rw [h] at hh; exact Bool.noConfusion hh
  · exact .inr hx

theorem State.pushTrailing_path (t : Task) (h : sc.bars t = false) : Path sc s (s.pushTrailing t) := by
  refine Path.one (Move.tasks s.agenda (t :: s.trailing) fun x hx hh => ?_)
  simp only [List.mem_append, List.mem_cons] at hx ⊢
  rcases hx with hx | rfl | hx
  · exact .inl hx
  · rw [h] at hh; exact Bool.noConfusion hh
  · exact .inr hx

theorem State.setFlag_path (c : AttentionClass) : Path sc s (s.setFlag c) := Path.one (Move.attention _ (by ext i; simp; tauto))
theorem State.setResult_path (hv : sc ≠ .work) (n : Nat) : Path sc s (s.setResult n) := Path.one (Move.status _ s.regs.errorAddress hv)
theorem State.setErrorAddress_path (hv : sc ≠ .work) (n : Nat) : Path sc s (s.setErrorAddress n) := Path.one (Move.status s.regs.result _ hv)
theorem State.send_path (m : Message) (h : m.allowedIn s.control.state = true) : Path sc s (s.send m) :=
  Path.one (Move.send m h)
theorem State.withdraw_path (h : HeadId) : Path sc s (s.setWaiting h none) :=
  Path.one (Move.waiting h none fun _ e => by cases e)

/-- A frame record changed without bringing the frame into use, its copy kept. -/
theorem State.setFrame_path (f : FrameId) (r : FrameRecord)
    (h : r.inUse = true → (s.frame f).inUse = true ∧ r.copy = (s.frame f).copy) : Path sc s (s.setFrame f r) := by
  refine Path.one (Move.trays _ fun hd x y hxy hx hy st hst => ?_)
  simp only [Fin.getElem_fin, Vector.getElem_set] at hx hy hst ⊢
  have key : ∀ z : FrameId, (if f.val = z.val then r else s.trays.frames[z.val]).inUse = true →
      s.trays.frames[z].inUse = true ∧
        ∀ st, (if f.val = z.val then r else s.trays.frames[z.val]).isAt st = s.trays.frames[z].isAt st := by
    intro z hz
    by_cases e : f.val = z.val
    · have e' : f = z := Fin.ext e
      subst e'
      simp only [if_true] at hz ⊢
      have := h hz
      exact ⟨this.1, fun st => by simp only [FrameRecord.isAt, this.2]; rfl⟩
    · simp only [e, if_false] at hz ⊢
      exact ⟨hz, fun _ => rfl⟩
  have hx' := key x hx
  have hy' := key y hy
  rw [hy'.2]
  exact hd x y hxy hx'.1 hy'.1 st (by rw [← hx'.2]; exact hst)

end

end Sys2Proof.Machine
end

