-- ==== Sys2Proof/Laws/Paths.lean ====
section
/-! SUPPORT. Every operation of the 7340 is a path of `Move`s: one lemma for each, from the notice board to the rail arbiter.
Laws/Work.lean goes on with the planner, the loader and the commands. -/

namespace Sys2Proof.Machine

variable {sc : Scope} (s : State)

/-! ## Words of exchange memory -/

theorem State.poke_path (a : Nat) (w : Word) (h : ∀ j < 4, deviceOwned (a + j) = true) : Path sc s (s.poke a w) :=
  Path.one (Move.mem _ (DeviceWrite.word _ a w h))

theorem State.writeFrameState_path (f : FrameId) (st : FrameState) : Path sc s (s.writeFrameState f st) :=
  State.poke_path s _ _ fun j hj => deviceOwned_frame f j (.inl hj)

theorem State.writeReason_path (f : FrameId) (r : FrameReason) (n : Nat) : Path sc s (s.writeReason f r n) :=
  State.poke_path s _ _ fun j hj => by
    rw [Nat.add_assoc]
    exact deviceOwned_frame f (0x0C + j) (.inr (.inl (by omega)))

/-! ## The notice board -/

theorem suppressNewest_length (q : List Notice) : (suppressNewest q).length = q.length := by
  fun_induction suppressNewest q with
  | case1 => rfl
  | case2 => rfl
  | case3 n m rest ih => simp [ih]

theorem enqueue_length (q : List Notice) (n : Notice) (h : q.length ≤ 8) : (enqueue q n).length ≤ 8 := by
  unfold enqueue Config.queueRoom
  split
  · simp only [List.length_append, List.length_cons, List.length_nil]; omega
  · rw [suppressNewest_length]; exact h

theorem noticeWords_length (n : Notice) (q : BitVec 16) : (noticeWords n q).length = 15 := rfl

theorem State.writeNotice_path (k : SlotId) (n : Notice) : Path sc s (s.writeNotice k n) := by
  have hm : DeviceWrite s.mem (writeWord (writeWords s.mem (Config.slotBase k + 4) (noticeWords n s.board.sequence))
      (Config.slotBase k) 1#32) := by
    refine (DeviceWrite.words _ _ _ fun j hj => ?_).trans (DeviceWrite.word _ _ _ fun j hj => ?_)
    · rw [noticeWords_length] at hj
      rw [Nat.add_assoc]
      exact deviceOwned_board k (4 + j) (by omega)
    · exact deviceOwned_board k j (by omega)
  refine (Path.one (Move.mem _ hm)).trans (Path.trans (Path.one (Move.board { s.board with sequence := s.board.sequence + 1#16 }
    fun hq => ?_)) (State.setFlag_path _ .notice))
  exact hq

theorem State.raise_path (n : Notice) : Path sc s (s.raise n) := by
  refine (State.setFlag_path s .notice).trans ?_
  unfold State.raise
  simp only
  split
  · exact State.writeNotice_path _ _ _
  · exact Path.one (Move.board _ fun hq => enqueue_length _ _ hq)

@[simp] theorem State.writeNotice_control (k : SlotId) (n : Notice) : (s.writeNotice k n).control = s.control := by
  simp [State.writeNotice]

@[simp] theorem State.raise_control (n : Notice) : (s.raise n).control = s.control := by
  unfold State.raise; simp only; split <;> simp

theorem State.slotFreed_path (k : SlotId) : Path sc s (s.slotFreed k) := by
  refine (State.poke_path s _ 0#32 fun j hj => deviceOwned_board k j (by omega)).trans ?_
  unfold State.slotFreed
  simp only
  split
  · exact Path.refl _
  · rename_i n rest hq
    have hb : Path sc (s.poke (Config.slotBase k) 0#32)
        ({ s.poke (Config.slotBase k) 0#32 with board := { (s.poke (Config.slotBase k) 0#32).board with queue := rest } }) :=
      Path.one (Move.board _ fun hl => by
        rw [hq] at hl
        simp only [List.length_cons] at hl ⊢
        omega)
    refine hb.trans ((State.writeNotice_path _ k n).trans ?_)
    split
    · exact (State.push_path _ _ rfl).trans (State.push_path _ _ rfl)
    · exact Path.refl _

theorem State.slotWrite_path (hv : sc ≠ .work) (k : SlotId) (narrow : Bool) (v : Word) : Path sc s (s.slotWrite k narrow v) := by
  unfold State.slotWrite
  simp only
  split
  · exact State.setErrorAddress_path s hv _
  · split
    · exact Path.refl _
    · split
      · exact State.slotFreed_path s k
      · exact State.setErrorAddress_path s hv _

/-! ## Operating-state tests -/

theorem State.isIn_iff (d : DeviceState) : s.isIn d = true ↔ s.control.state = d := by simp [State.isIn]

theorem State.holdTest_path : Path sc s s.holdTest := by
  unfold State.holdTest
  split
  · rename_i h
    simp only [Bool.and_eq_true, State.isIn_iff] at h
    exact (Path.one (Move.holdDone h.1.1)).trans (State.setFlag_path _ .state)
  · exact Path.refl s

theorem State.drainTest_path : Path sc s s.drainTest := by
  unfold State.drainTest
  split
  · rename_i h
    simp only [Bool.and_eq_true, State.isIn_iff] at h
    exact (Path.one (Move.drainDone h.1.1)).trans (State.setFlag_path _ .state)
  · exact Path.refl s

/-! ## The unit table -/

theorem State.createUnit_path (serial : Word) (st : Fin 2) (tray : BitVec 16) (i : Nat) (h : HeadId) (k : Nozzle) :
    Path sc s (s.createUnit serial st tray i h k).1 := by
  unfold State.createUnit
  split
  · exact Path.inner rfl
  · exact Path.refl s

theorem State.rerouteNozzle_path (h : HeadId) (k : Nozzle) : Path sc s (s.rerouteNozzle h k) := by
  unfold State.rerouteNozzle
  split
  · exact Path.refl s
  · split
    · exact Path.refl s
    · split
      · exact Path.refl s
      · exact (State.setUnit_path s _ _).trans (State.push_path _ _ rfl)

theorem State.reroute_path : Path sc s s.reroute := by
  unfold State.reroute
  split
  · exact Path.refl s
  · exact (Path.foldl _ (fun s k => State.rerouteNozzle_path s .a k) _ s).trans
      (Path.foldl _ (fun s k => State.rerouteNozzle_path s .b k) _ _)

theorem State.reportUnusable_path (i : Site) (b : Bool) : Path sc s (s.reportUnusable i b) := by
  unfold State.reportUnusable
  split
  · exact State.reroute_path s
  · exact Path.refl s

theorem State.dropEntry_path (p : Fin 16) : Path sc s (s.dropEntry p) :=
  (State.setRetest_path s _).trans (State.push_path _ _ rfl)

theorem State.setClaim_path (p : Fin 16) (c : Option HeadId) : Path sc s (s.setClaim p c) := State.setRetest_path s _

theorem State.freeUnit_path (u : Handle) : Path sc s (s.freeUnit u) :=
  (State.setUnit_path s u none).trans (State.drainTest_path _)

theorem State.vacate_path (p : Place) : Path sc s (s.vacate p) := by
  unfold State.vacate
  split
  · exact State.setSlot_path s _ _ _
  · exact State.setSocket_path s _ _
  · exact (State.setStrip_path s _ _).trans (State.dropEntry_path _ _)

theorem State.declareLost_path (u : Handle) (c : LossCause) : Path sc s (s.declareLost u c) := by
  unfold State.declareLost
  split
  · exact Path.refl s
  · exact (State.raise_path s _).trans ((State.vacate_path _ _).trans (State.freeUnit_path _ u))

/-! ## The tray frame unit -/

theorem State.reportRoom_path (st : Station) : Path sc s (s.reportRoom st) := by
  unfold State.reportRoom
  split
  · split
    · exact State.push_path s _ rfl
    · exact Path.refl s
  · exact Path.refl s

theorem State.leaveInputs_path (f : FrameId) : Path sc s (s.leaveInputs f) := by
  have h : Path sc s { s with trays := { s.trays with inputs := s.trays.inputs.filter fun g => g != f } } :=
    Path.one (Move.trays _ id)
  refine h.trans ?_
  unfold State.leaveInputs
  simp only
  split
  · split
    · exact State.push_path _ _ rfl
    · exact Path.refl _
  · exact Path.refl _

theorem State.spend_path (f : FrameId) (r : FrameReason) : Path sc s (s.spend f r) := by
  exact ((State.writeReason_path s f r (s.frame f).done).trans ((State.writeFrameState_path _ f .spent).trans
    ((State.setFlag_path _ .tray).trans (State.leaveInputs_path _ f)))).trans
      (State.setFrame_path _ f { s.frame f with state := .spent, marks := [] } fun h => by simp [FrameRecord.inUse] at h)

theorem State.closedTest_path (f : FrameId) : Path sc s (s.closedTest f) := by
  unfold State.closedTest
  simp only
  split
  · exact State.spend_path s f _
  · exact Path.refl s

theorem State.completionTest_path (f : FrameId) : Path sc s (s.completionTest f) := by
  unfold State.completionTest
  split
  · exact State.spend_path s f _
  · exact State.closedTest_path s f

theorem State.setMark_path (f : FrameId) (i : Nat) (m : PocketMark) : Path sc s (s.setMark f i m) :=
  State.setFrame_path s f _ fun h => ⟨h, rfl⟩

theorem State.releasePocket_path (f : FrameId) (i : Nat) (h : HeadId) : Path sc s (s.releasePocket f i h) := by
  unfold State.releasePocket
  split
  · refine (State.setMark_path s f i .isOpen).trans ?_
    simp only
    split
    · exact State.closedTest_path _ f
    · exact State.reportRoom_path _ _
    · exact Path.refl _
  · exact Path.refl s

theorem State.writeResult_path (f : FrameId) (i : Nat) (ws : List Word) : Path sc s (s.writeResult f i ws) := by
  unfold State.writeResult
  split
  · rename_i hi
    refine Path.trans (Path.one (Move.mem _ (DeviceWrite.words s.mem (resultOffset f i) (ws.take 6) fun j hj => ?_)))
      (Path.trans ?_ ((State.writeReason_path _ f .none _).trans (State.completionTest_path _ f)))
    rotate_left
    · exact State.setFrame_path _ f _ fun h => ⟨h, rfl⟩
    have h6 : (ws.take 6).length ≤ 6 := by rw [List.length_take]; exact Nat.min_le_left _ _
    rw [show resultOffset f i + j = Config.frameBase f + (0x240 + 24 * i + j) by unfold resultOffset; omega]
    exact deviceOwned_frame f _ (.inr (.inr (by omega)))
  · exact Path.refl s

theorem State.writeOutcome_path (f : FrameId) (i : Nat) (u : UnitRecord) : Path sc s (s.writeOutcome f i u) := by
  unfold State.writeOutcome
  split
  · refine (State.poke_path s _ _ fun j hj => ?_).trans (State.writeResult_path _ f i _)
    rw [show listOffset f i + j = Config.frameBase f + (0x40 + 4 * i + j) by unfold listOffset; omega]
    exact deviceOwned_frame f _ (.inr (.inr (by omega)))
  · exact Path.refl s

theorem State.rejectFrame_path (f : FrameId) (r : FrameReason) : Path sc s (s.rejectFrame f r) := by
  refine (State.writeReason_path s f r 0).trans ((State.writeFrameState_path _ f .rejected).trans
    ((State.setFlag_path _ .tray).trans ?_))
  unfold State.rejectFrame
  simp only
  split
  · exact Path.refl _
  · exact State.setFrame_path _ f _ fun h => by simp [FrameRecord.inUse] at h

/-- What passed validation: no other frame in use is at the station (R129, R131). -/
theorem State.validateFrame_ok {f : FrameId} {st : Station} (h : s.validateFrame f = .ok st) :
    ∀ k : FrameId, k ≠ f → (s.frame k).inUse = true → (s.frame k).isAt st = false := by
  unfold State.validateFrame at h
  simp only at h
  split at h
  · cases h
  · split at h
    · cases h
    · cases h
    · rename_i st' _ _
      split at h
      · cases h
      · split at h
        · cases h
        · rename_i hb
          have he : st' = st := by
            split at h
            · split at h <;> first | exact Except.ok.inj h | cases h
            · split at h <;> first | exact Except.ok.inj h | cases h
          subst he
          intro k hk hu
          by_contra hc
          refine hb (List.any_eq_true.2 ⟨k, List.mem_finRange k, ?_⟩)
          simpa [hk, hu] using hc

theorem State.copyFrame_path (f : FrameId) (st : Station)
    (h : ∀ k : FrameId, k ≠ f → (s.frame k).inUse = true → (s.frame k).isAt st = false) :
    Path sc s (s.copyFrame f st) := by
  have hT : Path sc s (s.setFrame f
      { state := .active
        copy := some (readFrameCopy s.mem f st)
        marks := List.replicate (readFrameCopy s.mem f st).size .isOpen
        done := 0 }) := by
    refine Path.one (Move.trays _ fun hd x y hxy hx hy t ht => ?_)
    simp only [Fin.getElem_fin, Vector.getElem_set] at hx hy ht ⊢
    by_cases ex : f.val = x.val
    · have ey : f.val ≠ y.val := fun e => hxy (Fin.ext (ex.symm.trans e))
      simp only [ex, if_true] at ht
      simp only [ey, if_false] at hy ⊢
      have : t = st := by
        simp only [FrameRecord.isAt, Option.map_some, readFrameCopy, beq_iff_eq, Option.some.injEq] at ht
        exact ht.symm
      subst this
      exact h y (fun e => ey (by rw [e])) hy
    · simp only [ex, if_false] at hx ht
      by_cases ey : f.val = y.val
      · simp only [ey, if_true]
        by_contra hc
        have : t = st := by
          simp only [FrameRecord.isAt, Option.map_some, readFrameCopy] at hc
          by_contra hne
          exact hc (by simp [Ne.symm hne])
        subst this
        have := h x (fun e => ex (by rw [e])) hx
        simp only [State.frame, Fin.getElem_fin] at this
        rw [this] at ht
        exact Bool.noConfusion ht
      · simp only [ey, if_false] at hy ⊢
        exact hd x y hxy hx hy t ht
  have hm : DeviceWrite s.mem (clearRange s.mem (resultOffset f 0) (128 * 24)) :=
    DeviceWrite.clear _ _ _ fun j hj => by
      rw [show resultOffset f 0 + j = Config.frameBase f + (0x240 + j) by unfold resultOffset; omega]
      exact deviceOwned_frame f _ (.inr (.inr (by omega)))
  refine hT.trans ?_
  unfold State.copyFrame
  simp only
  refine Path.trans (Path.one (Move.mem _ ?_)) ((State.writeReason_path _ f _ _).trans (State.writeFrameState_path _ f _))
  simp only [State.setFrame_mem]
  split
  · refine hm.trans (DeviceWrite.clear _ _ _ fun j hj => ?_)
    rw [show listOffset f 0 + j = Config.frameBase f + (0x40 + j) by unfold listOffset; omega]
    exact deviceOwned_frame f _ (.inr (.inr (by omega)))
  · exact hm

theorem State.activateFrame_path (f : FrameId) (st : Station)
    (h : ∀ k : FrameId, k ≠ f → (s.frame k).inUse = true → (s.frame k).isAt st = false) :
    Path sc s (s.activateFrame f st) := by
  refine (State.copyFrame_path s f st h).trans ?_
  unfold State.activateFrame
  simp only
  split
  · refine Path.trans ?_ (State.push_path _ _ rfl)
    exact Path.one (Move.trays _ id)
  · split
    · exact State.spend_path _ f _
    · exact (State.push_path _ _ rfl).trans (State.reportRoom_path _ _)

theorem State.takePosted_path (f : FrameId) : Path sc s (s.takePosted f) := by
  unfold State.takePosted
  split
  · exact State.rejectFrame_path s f _
  · rename_i st h
    exact State.activateFrame_path s f st (State.validateFrame_ok s h)

/-! ## The motion link -/

theorem State.sendAct_path (h : HeadId) (k : Nozzle) (a : Action) (n : Nat) (hs : s.control.state ≠ .halted) :
    Path sc s (s.sendAct h k a n) :=
  (State.send_path s _ (by simp [Message.allowedIn, hs])).trans (Path.one (Move.command h _ (by simp)))

theorem State.startAct_path (h : HeadId) (k : Nozzle) (a : Action) (hs : s.control.state ≠ .halted) :
    Path sc s (s.startAct h k a) :=
  (State.sendAct_path s h k a 1 hs).trans (State.setHeadState_path _ h .acting)

/-! ## Sockets -/

theorem State.enterTimed_path (i : Site) (st : SocketState) (k : TimerKind) : Path sc s (s.enterTimed i st k) := by
  unfold State.enterTimed
  simp only
  split <;> first
    | exact (State.setSocket_path s _ _).trans (State.pushTrailing_path _ _ rfl)
    | exact State.setSocket_path s _ _

theorem State.enterStopped_path (i : Site) (st : SocketState) : Path sc s (s.enterStopped i st) :=
  State.setSocket_path s _ _

theorem State.updateRequests_path (i : Site) : Path sc s (s.updateRequests i) := by
  unfold State.updateRequests
  split
  · exact Path.refl s
  · split
    · exact (State.setRequest_path s _ _).trans (State.push_path _ _ rfl)
    · split
      · exact Path.refl s
      · exact State.setRequest_path s _ _
    · exact State.setRequest_path s _ _
    · exact Path.refl s

theorem State.unbind_path (i : Site) : Path sc s (s.unbind i) :=
  (State.setSocket_path s _ _).trans (State.updateRequests_path _ i)

theorem State.unbindReturn_path (i : Site) (r : Nat) : Path sc s (s.unbindReturn i r) := by
  refine (State.setSocket_path s i { s.socket i with bound := none }).trans ?_
  unfold State.unbindReturn
  simp only
  split
  · exact (State.setRequest_path _ _ _).trans (State.push_path _ _ rfl)
  · exact Path.refl _

theorem State.sendStart_path (i : Site) (hs : s.control.state ≠ .halted) : Path sc s (s.sendStart i) :=
  (State.send_path s _ (by simp [Message.allowedIn, hs])).trans ((State.setTest_path _ i _).trans
    ((State.setSocket_path _ i _).trans (State.enterTimed_path _ i _ _)))

theorem State.retireCheck_path (i : Site) : Path sc s (s.retireCheck i) := by
  unfold State.retireCheck
  simp only
  split
  · exact (State.setSocket_path s i _).trans ((State.raise_path _ _).trans ((State.setFlag_path _ .site).trans
      ((State.updateRequests_path _ i).trans (State.reportUnusable_path _ i _))))
  · exact Path.refl s

theorem State.closeUnit_path (i : Site) (b : Fin 64) (d : Nat) (l : LateMarker) : Path sc s (s.closeUnit i b d l) := by
  unfold State.closeUnit
  split
  · exact Path.refl s
  · exact State.modUnit_path s _ _

theorem State.closeTest_path (i : Site) (b : Fin 64) (d : Nat) (l : LateMarker) (n : Nat) :
    Path sc s (s.closeTest i b d l n) :=
  (State.closeUnit_path s i b d l).trans ((State.setTest_path _ i _).trans ((State.send_path _ (.release i) rfl).trans
    ((State.enterTimed_path _ i _ _).trans ((State.setSocket_path _ i _).trans ((State.updateRequests_path _ i).trans
      (State.retireCheck_path _ i))))))

theorem State.siteDrop_path (i : Site) : Path sc s (s.siteDrop i) :=
  (State.closeTest_path s i _ _ _ _).trans ((State.raise_path _ _).trans (State.setFlag_path _ .site))

theorem State.eotExpired_path (i : Site) : Path sc s (s.eotExpired i) :=
  (State.closeTest_path s i _ _ _ _).trans ((State.raise_path _ _).trans (State.setFlag_path _ .site))

theorem State.normalEnd_path (i : Site) (b : Byte) : Path sc s (s.normalEnd i b) := State.closeTest_path s i _ _ _ _

theorem State.lateEnd_path (i : Site) (b : Byte) : Path sc s (s.lateEnd i b) := by
  unfold State.lateEnd
  simp only
  split
  · exact State.raise_path s _
  · exact (State.raise_path s _).trans (State.setTest_path _ i _)
  · exact (State.raise_path s _).trans (State.setTest_path _ i _)

theorem State.not_halted_of {s : State} (h : s.isIn .halted = false) : s.control.state ≠ .halted := by
  simpa [State.isIn] using h

theorem State.takeReady_path (i : Site) (up : Bool) : Path sc s (s.takeReady i up) := by
  refine (State.setSocket_path s i { s.socket i with ready := up }).trans ?_
  unfold State.takeReady
  simp only
  split
  · split
    · rename_i h
      exact State.sendStart_path _ i (State.not_halted_of h.2)
    · exact Path.refl _
  · exact State.siteDrop_path _ i
  · exact State.updateRequests_path _ i
  · exact Path.refl _

theorem State.contactExpired_path (i : Site) : Path sc s (s.contactExpired i) := by
  refine (State.setSocket_path s i { s.socket i with timer := .expired }).trans ?_
  unfold State.contactExpired
  simp only
  split
  · rename_i h
    exact State.sendStart_path _ i (State.not_halted_of h.2)
  · exact Path.refl _

theorem State.releaseExpired_path (i : Site) : Path sc s (s.releaseExpired i) :=
  (State.enterStopped_path s i _).trans (State.updateRequests_path _ i)

theorem State.socketClear_path (i : Site) (h : HeadId) : Path sc s (s.socketClear i h) := by
  unfold State.socketClear
  split
  · split
    · split
      · rename_i hc
        exact State.startAct_path s h _ _ (State.not_halted_of hc.2)
      · exact Path.refl s
    · exact Path.refl s
  · exact Path.refl s

theorem State.recoveryExpired_path (i : Site) : Path sc s (s.recoveryExpired i) := by
  unfold State.recoveryExpired
  split
  · exact (State.enterStopped_path s i _).trans ((State.setSocket_path _ i _).trans (State.updateRequests_path _ i))
  · refine (State.enterStopped_path s i .empty).trans ?_
    simp only
    split
    · exact State.socketClear_path _ i _
    · exact State.updateRequests_path _ i

theorem State.timerExpired_path (i : Site) : Path sc s (s.timerExpired i) := by
  unfold State.timerExpired
  split
  · exact (State.reach_path s _).trans (State.contactExpired_path _ i)
  · exact (State.reach_path s _).trans (State.eotExpired_path _ i)
  · exact (State.reach_path s _).trans (State.releaseExpired_path _ i)
  · exact (State.reach_path s _).trans (State.recoveryExpired_path _ i)
  · exact Path.refl s

theorem State.timerEvent_path (i : Site) (k : TimerKind) : Path sc s (s.timerEvent i k) := by
  unfold State.timerEvent
  split
  · split
    · exact State.timerExpired_path s i
    · exact Path.refl s
  · exact Path.refl s

theorem State.placedAtSocket_path (i : Site) (u : Handle) : Path sc s (s.placedAtSocket i u) :=
  (State.setSocket_path s i _).trans ((State.send_path _ (.contact i) rfl).trans ((State.enterTimed_path _ i _ _).trans
    (State.unbind_path _ i)))

theorem State.pickedAtSocket_path (i : Site) : Path sc s (s.pickedAtSocket i) := by
  refine ((State.setSocket_path s i { s.socket i with unit := none }).trans
    (State.enterTimed_path _ i .recovering .recovery)).trans ?_
  unfold State.pickedAtSocket
  simp only
  split
  · exact Path.refl _
  · exact State.unbind_path _ i

theorem State.jam_path (i : Site) (h : HeadId) (k : Nozzle) (w : Option Word) : Path sc s (s.jam i h k w) :=
  (State.enterStopped_path s i .jammed).trans ((State.unbind_path _ i).trans ((State.raise_path _ _).trans
    ((State.setFlag_path _ .site).trans (State.reportUnusable_path _ i _))))

theorem State.editLockout_path (i : Site) : Path sc s (s.editLockout i) := by
  unfold State.editLockout
  simp only
  split
  · split <;> exact State.setSocket_path s i _
  · exact Path.refl s

theorem State.editReinstate_path (i : Site) (b : Bool) : Path sc s (s.editReinstate i b) := by
  unfold State.editReinstate
  simp only
  split
  · exact State.setSocket_path s i _
  · exact Path.refl s

theorem State.editJamClear_path (i : Site) (b : Bool) : Path sc s (s.editJamClear i b) := by
  unfold State.editJamClear
  split
  · simp only
    split
    · exact (State.setSocket_path s i _).trans (State.enterTimed_path _ i _ _)
    · exact (State.declareLost_path s _ _).trans ((State.setSocket_path _ i _).trans (State.enterTimed_path _ i _ _))
  · exact Path.refl s

theorem State.editEnable_path (i : Site) : Path sc s (s.editEnable i) := by
  unfold State.editEnable
  simp only
  split
  · exact Path.refl s
  · split
    · exact State.setSocket_path s i _
    · exact State.setSocket_path s i _
    · exact Path.refl s
    · exact Path.refl s
    · exact Path.refl s
    · exact Path.refl s
    · split
      · exact State.setSocket_path s i _
      · exact Path.refl s
    · split
      · exact State.setSocket_path s i _
      · exact Path.refl s

theorem State.editSite_path (i : Site) (a b : Bool) : Path sc s (s.editSite i a b) :=
  (State.editLockout_path s i).trans ((State.editReinstate_path _ i a).trans ((State.editJamClear_path _ i b).trans
    ((State.editEnable_path _ i).trans (State.updateRequests_path _ i))))

/-! ## Dissolution -/

theorem State.releaseLeg_path (h : HeadId) (l : Leg) : Path sc s (s.releaseLeg h l) := by
  unfold State.releaseLeg
  split
  · exact State.setClaim_path s _ _
  · split
    · exact State.setStrip_path s _ _
    · exact Path.refl s
  · split
    · exact State.releasePocket_path s _ _ _
    · exact Path.refl s
  · split
    · exact State.releasePocket_path s _ _ _
    · exact Path.refl s
  · exact Path.refl s
  · exact Path.refl s

theorem State.returnRequest_path (h : HeadId) (j : Job) : Path sc s (s.returnRequest h j) := by
  unfold State.returnRequest
  split
  · exact Path.refl s
  · split
    · exact State.unbindReturn_path s _ _
    · exact Path.refl s

theorem State.dissolve_path (h : HeadId) (d k : List Leg) : Path sc s (s.dissolve h d k) := by
  refine ((Path.foldl _ (fun s l => State.releaseLeg_path s h l) d s).trans (State.withdraw_path _ h)).trans ?_
  unfold State.dissolve
  simp only
  split
  · exact (State.setHead_path _ h _).trans (State.reroute_path _)
  · exact (State.returnRequest_path _ h _).trans ((State.setHead_path _ h _).trans (State.reroute_path _))

/-! ## The rail arbiter -/

theorem State.working_state {s : State} (h : s.working = true) : s.control.state = .run ∨ s.control.state = .draining := by
  simpa [State.working, State.isIn] using h

theorem State.grantLeg_path (h : HeadId) (x y : Nat) (iv : Interval) (hw : s.working = true)
    (hc : s.compatible h iv = true)
    (hx : iv.holds x ∨ ∃ w, s.rail.waiting.get h = some w ∧ w.x = x ∧ w.swept = iv) :
    Path sc s (s.grantLeg h x y iv) := by
  unfold State.grantLeg State.sendTravel
  simp only
  generalize profileIndices _ _ = pp
  obtain ⟨px, py⟩ := pp
  generalize Watchdog.running _ = dog
  generalize (if State.isYielding _ _ = true then HeadState.yielding else HeadState.moving) = st
  refine (State.send_path s (.travel h x y px py) ?_).trans (Path.trans
    (Path.one (Move.travel (s := s.send (.travel h x y px py)) h x y px py dog iv hw hc hx)) (State.setHeadState_path _ h st))
  rcases State.working_state hw with e | e <;> simp [Message.allowedIn, e]

theorem State.regrant_path (h : HeadId) : Path sc s (s.regrant h) := by
  unfold State.regrant
  split
  · exact Path.refl s
  · rename_i w hw
    split
    · rename_i hc
      simp only [Bool.and_eq_true] at hc
      exact State.grantLeg_path s h _ _ _ hc.1 hc.2 (.inr ⟨w, hw, rfl, rfl⟩)
    · exact Path.refl s

theorem State.grant_path (h : HeadId) (x y : Nat) (iv : Interval) (hw : s.working = true)
    (hc : s.compatible h iv = true)
    (hx : iv.holds x ∨ ∃ w, s.rail.waiting.get h = some w ∧ w.x = x ∧ w.swept = iv) :
    Path sc s (s.grant h x y iv) :=
  (State.grantLeg_path s h x y iv hw hc hx).trans (State.regrant_path _ _)

theorem sweep_holds (a b : Nat) : (sweep a b).holds b := ⟨Nat.min_le_right a b, Nat.le_max_right a b⟩

theorem State.examine_path (h : HeadId) (l : Leg) : Path sc s (s.examine h l).1 := by
  unfold State.examine
  simp only
  split
  · rename_i hc
    simp only [Bool.and_eq_true] at hc
    exact State.grant_path s h _ _ _ hc.1 hc.2 (.inl (sweep_holds _ _))
  · exact Path.one (Move.waiting h _ fun v e => by cases e; exact sweep_holds _ _)

theorem State.giveYield_path (h : HeadId) : Path sc s (s.giveYield h) := by
  unfold State.giveYield
  split
  · exact Path.refl s
  · exact (State.setHead_path s h _).trans (State.examine_path _ h _)

theorem State.mutualWait_path : Path sc s s.mutualWait := by
  unfold State.mutualWait
  simp only
  exact (State.dissolve_path s _ _ _).trans (State.giveYield_path _ _)

theorem State.actOnBlocker_path (h : HeadId) : Path sc s (s.actOnBlocker h) := by
  unfold State.actOnBlocker
  split
  · exact State.giveYield_path s _
  · exact State.giveYield_path s _
  · split
    · exact State.mutualWait_path s
    · exact Path.refl s
  · split
    · exact State.mutualWait_path s
    · exact Path.refl s
  all_goals exact Path.refl s

theorem State.submit_path (h : HeadId) (st : HeadState) : Path sc s (s.submit h st) := by
  unfold State.submit
  split
  · exact Path.refl s
  · rename_i l _ _
    refine ((State.setHeadState_path s h st).trans (State.examine_path _ h l)).trans ?_
    simp only
    split
    · exact Path.refl _
    · exact State.actOnBlocker_path _ h

theorem State.settledHead_path (h : HeadId) : Path sc s (s.settledHead h) := by
  unfold State.settledHead
  split
  · exact Path.refl s
  · rename_i w hw
    split
    · rename_i hc
      simp only [Bool.and_eq_true] at hc
      exact State.grant_path s _ _ _ _ hc.1 hc.2 (.inr ⟨w, hw, rfl, rfl⟩)
    · exact State.actOnBlocker_path s _

end Sys2Proof.Machine
end

