-- ==== Sys2Proof/Laws/Work.lean ====
section
/-! SUPPORT. The planner, the heads, the loader, the host's writes and the follow-up work of an event are paths of `Move`s; and
what an event leaves alone when it has no follow-up work. -/

namespace Sys2Proof.Machine

variable {sc : Scope} (s : State)

/-! ## The planner -/

theorem State.bindJob_path (h : HeadId) (j : Job) (l : List Leg) : Path sc s (s.bindJob h j l) :=
  State.setHead_path s h _

theorem State.bindOffer_path (h : HeadId) (o : Offer) : Path sc s (s.bindOffer h o) :=
  (State.setRequest_path s o.site none).trans ((State.setSocket_path _ o.site _).trans
    ((State.bindJob_path _ h _ _).trans (State.submit_path _ h .bound)))

theorem State.evaluateSupply_path : Path sc s s.evaluateSupply := by
  have h : Path sc s { s with planner := { s.planner with supply := s.supplyNow } } := Path.inner rfl
  refine h.trans ?_
  unfold State.evaluateSupply
  simp only
  split
  · exact State.setFlag_path _ .supply
  · exact Path.refl _

theorem State.feedLeg_path (h : HeadId) {t : State} {l : Leg} (e : s.feedLeg h = some (t, l)) : Path sc s t := by
  unfold State.feedLeg at e
  split at e
  · cases e; exact State.setClaim_path s _ _
  · split at e
    · cases e; exact State.setMark_path s _ _ _
    · cases e

theorem State.commitClass_path (h : HeadId) (k : Nozzle) (u : Handle) (c : Fin 8) :
    Path sc s (s.commitClass h k u c).1 := by
  unfold State.commitClass
  split
  · exact Path.refl s
  · simp only
    split
    · exact State.setMark_path s _ _ _
    · exact (State.setMark_path s _ _ _).trans (State.releasePocket_path _ _ _ _)

theorem State.commit_path (h : HeadId) (k : Nozzle) (u : Handle) : Path sc s (s.commit h k u).1 := by
  unfold State.commit
  split
  · exact Path.refl s
  · split
    · exact Path.refl s
    · exact State.commitClass_path s _ _ _ _
    · split
      · split
        · exact State.setStrip_path s _ _
        · exact Path.refl s
      · exact (State.setUnit_path s _ _).trans (State.commitClass_path _ _ _ _ _)

theorem State.sortLeg_path (h : HeadId) (taken : List Handle) (n : Nat) (out : List Nozzle) :
    Path sc s (s.sortLeg h taken n out).1 := by
  induction n generalizing s out with
  | zero => exact Path.refl s
  | succ n ih =>
    unfold State.sortLeg
    split
    · exact Path.refl s
    · rename_i k u _
      have hp := State.commit_path (sc := sc) s h k u
      split
      · rename_i e; rw [e] at hp; exact hp
      · rename_i e; rw [e] at hp; exact hp.trans (ih _ _)

theorem State.settle_path (h : HeadId) : Path sc s (s.settle h) :=
  (State.settledHead_path s h).trans (State.drainTest_path _)

theorem State.restHead_path (h : HeadId) : Path sc s (s.restHead h) := by
  unfold State.restHead
  simp only
  split
  · split
    · exact Path.refl s
    · split
      · exact State.setHeadState_path s h _
      · exact (State.setHead_path s h _).trans (State.setFlag_path _ .bin)
  · exact State.setHeadState_path s h _

theorem State.bindSort_path (h : HeadId) : Path sc s (s.bindSort h) := by
  unfold State.bindSort
  have hp := State.sortLeg_path (sc := sc) s h [] 4 []
  split
  · rename_i e
    rw [e] at hp
    exact hp.trans ((State.bindJob_path _ h _ _).trans (State.submit_path _ h .bound))
  · rename_i e
    rw [e] at hp
    exact hp.trans ((State.restHead_path _ h).trans (State.settle_path _ h))

theorem State.selectSupply_path (h : HeadId) : Path sc s (s.selectSupply h) := by
  refine (State.evaluateSupply_path s).trans ?_
  unfold State.selectSupply
  simp only
  split
  · rename_i e
    split at e
    · exact (State.feedLeg_path _ h e).trans ((State.bindJob_path _ h _ _).trans (State.submit_path _ h .bound))
    · cases e
  · split
    · exact State.bindSort_path _ h
    · exact (State.restHead_path _ h).trans (State.settle_path _ h)

theorem State.select_path (h : HeadId) : Path sc s (s.select h) := by
  unfold State.select
  split
  · exact Path.refl s
  · split
    · exact (State.setHeadState_path s h .stopped).trans (State.holdTest_path _)
    · split
      · exact Path.refl s
      · split
        · exact State.settle_path s h
        · split
          · exact State.bindSort_path s h
          · split
            · exact State.bindOffer_path s h _
            · exact State.selectSupply_path s h

theorem State.selectResting_path : Path sc s s.selectResting := by
  unfold State.selectResting
  split
  · have h : Path sc s s.firstHead.1 := Path.inner rfl
    exact h.trans ((State.select_path _ _).trans (State.select_path _ _))
  · exact State.select_path s .a
  · exact State.select_path s .b
  · exact Path.refl s

theorem State.selectEntered_path (i : Site) : Path sc s (s.selectEntered i) := by
  unfold State.selectEntered
  split
  · exact (State.select_path s _).trans (State.select_path _ _)
  · exact State.selectResting_path s

theorem State.preempt_path (h : HeadId) (o : Offer) : Path sc s (s.preempt h o) := by
  refine ((Path.foldl _ (fun s l => State.releaseLeg_path s h l) (s.head h).legs s).trans
    (State.withdraw_path _ h)).trans ?_
  unfold State.preempt
  simp only
  split
  · exact (State.bindOffer_path _ h o).trans (State.reroute_path _)
  · exact (State.returnRequest_path _ h _).trans ((State.bindOffer_path _ h o).trans (State.reroute_path _))

theorem State.considerPreemption_path (i : Site) : Path sc s (s.considerPreemption i) := by
  unfold State.considerPreemption
  split
  · split
    · exact Path.refl s
    · exact State.preempt_path s _ _
    · exact State.preempt_path s _ _
    · split <;> exact State.preempt_path s _ _
  · exact Path.refl s

theorem State.requestEntered_path (i : Site) : Path sc s (s.requestEntered i) := by
  unfold State.requestEntered
  split
  · exact Path.refl s
  · exact (State.selectEntered_path s i).trans (State.considerPreemption_path _ i)

/-! ## A job's course on a head -/

theorem State.restAfterJob_path (h : HeadId) : Path sc s (s.restAfterJob h) := by
  unfold State.restAfterJob
  split
  · exact (State.setHeadState_path s h _).trans (State.select_path _ h)
  · exact (State.setHeadState_path s h _).trans (State.holdTest_path _)

theorem State.endJob_path (h : HeadId) : Path sc s (s.endJob h) :=
  (State.setHead_path s h _).trans ((State.reroute_path _).trans (State.restAfterJob_path _ h))

theorem State.dissolveAtEnd_path (h : HeadId) (d : List Leg) : Path sc s (s.dissolveAtEnd h d) :=
  (State.dissolve_path s h d []).trans (State.restAfterJob_path _ h)

theorem State.nextLeg_path (h : HeadId) (l : Leg) : Path sc s (s.nextLeg h l) :=
  (State.setHead_path s h _).trans (State.submit_path _ h .railWait)

theorem State.feedNext_path (h : HeadId) (n : Nat) : Path sc s (s.feedNext h n) := by
  unfold State.feedNext
  split
  · exact State.endJob_path s h
  · refine (State.evaluateSupply_path s).trans ?_
    simp only
    split
    · rename_i e
      exact (State.feedLeg_path _ h e).trans (State.nextLeg_path _ h _)
    · exact State.endJob_path _ h

theorem State.sortNext_path (h : HeadId) (j : Job) : Path sc s (s.sortNext h j) := by
  unfold State.sortNext
  have hp := State.sortLeg_path (sc := sc) s h j.taken 4 []
  split
  · rename_i e
    rw [e] at hp
    exact hp.trans ((State.setHead_path _ h _).trans (State.nextLeg_path _ h _))
  · rename_i e
    rw [e] at hp
    exact hp.trans (State.endJob_path _ h)

theorem State.legEnded_path (h : HeadId) (ok : Bool) : Path sc s (s.legEnded h ok) := by
  unfold State.legEnded
  simp only
  split
  · exact Path.refl s
  · rename_i j _
    have hp : Path sc s (s.setHead h
        { s.head h with
          job := some { j with legsDone := j.legsDone + 1 }
          legs := (s.head h).legs.tail }) := State.setHead_path s h _
    refine hp.trans ?_
    split
    · exact State.dissolveAtEnd_path _ h _
    · split
      · exact State.feedNext_path _ h _
      · exact State.sortNext_path _ h _
      · split
        · split
          · exact State.nextLeg_path _ h _
          · exact State.endJob_path _ h
        · exact State.endJob_path _ h
      all_goals exact State.endJob_path _ h

theorem State.inputPicked_path (h : HeadId) (k : Nozzle) (f : FrameId) (i : Nat) :
    Path sc s (s.inputPicked h k f i) := by
  unfold State.inputPicked
  split
  · exact Path.refl s
  · exact Path.refl s
  · simp only
    exact (State.createUnit_path s _ _ _ _ _ _).trans ((State.setSlot_path _ h k _).trans
      ((State.writeResult_path _ f i _).trans (State.reroute_path _)))

theorem State.stripPicked_path (h : HeadId) (k : Nozzle) (p : Fin 16) : Path sc s (s.stripPicked h k p) := by
  unfold State.stripPicked
  split
  · exact Path.refl s
  · exact Path.refl s
  · exact (State.setSlot_path s h k _).trans ((State.modUnit_path _ _ _).trans ((State.setStrip_path _ p _).trans
      (State.dropEntry_path _ p)))

theorem State.stripPickFailed_path (p : Fin 16) : Path sc s (s.stripPickFailed p) := by
  unfold State.stripPickFailed
  simp only
  split
  · exact State.setStrip_path s p _
  · exact (State.declareLost_path s _ _).trans (State.setStrip_path _ p _)

theorem State.socketPicked_path (h : HeadId) (k : Nozzle) (i : Site) : Path sc s (s.socketPicked h k i) := by
  unfold State.socketPicked
  split
  · simp only
    split
    · exact State.pickedAtSocket_path s i
    · exact (State.setSlot_path s h k _).trans ((State.modUnit_path _ _ _).trans (State.pickedAtSocket_path _ i))
  · exact Path.refl s

theorem State.socketPlaced_path (h : HeadId) (k : Nozzle) (i : Site) (u : Handle) :
    Path sc s (s.socketPlaced h k i u) := by
  unfold State.socketPlaced
  split
  · exact (State.setSlot_path s h k _).trans ((State.modUnit_path _ _ _).trans (State.placedAtSocket_path _ i u))
  · exact Path.refl s

theorem State.stripPlaced_path (h : HeadId) (k : Nozzle) (p : Fin 16) (u : Handle) :
    Path sc s (s.stripPlaced h k p u) := by
  unfold State.stripPlaced
  split
  · exact (State.setSlot_path s h k _).trans ((State.modUnit_path _ _ _).trans ((State.setStrip_path _ p _).trans
      ((State.setRetest_path _ _).trans (State.push_path _ _ rfl))))
  · exact Path.refl s

theorem State.outputPlaced_path (h : HeadId) (k : Nozzle) (f : FrameId) (i : Nat) (u : Handle) :
    Path sc s (s.outputPlaced h k f i u) := by
  unfold State.outputPlaced
  split
  · exact Path.refl s
  · split
    · exact (State.writeOutcome_path s f i _).trans ((State.freeUnit_path _ u).trans (State.setSlot_path _ h k _))
    · exact Path.refl s

theorem State.raiseBlocked_path (h : HeadId) (k : Nozzle) (st : Station) (n : Nat) :
    Path sc s (s.raiseBlocked h k st n) := State.raise_path s _

theorem State.report_path (h : HeadId) (l : Leg) (k : Nozzle) (ok : Bool) : Path sc s (s.report h l k ok) := by
  unfold State.report
  split
  · split
    · exact State.inputPicked_path s _ _ _ _
    · exact Path.refl s
  · split
    · exact State.writeResult_path s _ _ _
    · exact Path.refl s
  · exact State.stripPicked_path s _ _ _
  · exact State.stripPickFailed_path s _
  · exact State.socketPicked_path s _ _ _
  · split
    · exact State.jam_path s _ _ _ _
    · exact Path.refl s
  · split
    · exact State.socketPlaced_path s _ _ _ _
    · exact Path.refl s
  · split
    · exact State.jam_path s _ _ _ _
    · exact Path.refl s
  · split
    · exact State.stripPlaced_path s _ _ _ _
    · exact Path.refl s
  · exact (State.setStrip_path s _ _).trans (State.raiseBlocked_path _ _ _ _ _)
  · split
    · exact State.outputPlaced_path s _ _ _ _ _
    · exact Path.refl s
  · split
    · exact (State.writeResult_path s _ _ _).trans (State.raiseBlocked_path _ _ _ _ _)
    · exact Path.refl s
  · exact Path.refl s

theorem State.legArrived_path (h : HeadId) (hs : s.control.state ≠ .halted) : Path sc s (s.legArrived h) := by
  unfold State.legArrived
  split
  · exact Path.refl s
  · split
    · exact State.startAct_path s h _ _ hs
    · split
      · exact State.dissolveAtEnd_path s h _
      · split
        · split
          · exact State.startAct_path s h _ _ hs
          · split
            · exact State.setHeadState_path s h _
            · exact State.dissolveAtEnd_path s h _
        · exact State.startAct_path s h _ _ hs
    · exact State.endJob_path s h

@[simp] theorem State.grantLeg_control (h : HeadId) (x y : Nat) (iv : Interval) :
    (s.grantLeg h x y iv).control = s.control := rfl

@[simp] theorem State.regrant_control (h : HeadId) : (s.regrant h).control = s.control := by
  unfold State.regrant
  split
  · rfl
  · split <;> rfl

theorem State.holdTest_not_halted (hs : s.control.state ≠ .halted) : s.holdTest.control.state ≠ .halted := by
  unfold State.holdTest
  split
  · simp
  · exact hs

/-- A matched ARRIVED outside HALTED. -/
theorem State.travelEnded_path (h : HeadId) (x y : Nat) (px py : Fin 4) (dog : Watchdog)
    (hl : s.link.get h = .travel x y px py dog) (hs : s.control.state ≠ .halted) :
    Path sc s ((s.setCommand h .empty).travelEnded h x y) := by
  refine (Path.one (Move.arrive h x y px py dog hl)).trans ((State.regrant_path _ h.other).trans
    ((State.setHead_path _ h _).trans ((State.holdTest_path _).trans (State.legArrived_path _ h ?_))))
  refine State.holdTest_not_halted _ ?_
  simpa using hs

theorem State.takeArrived_path (h : HeadId) : Path sc s (s.takeArrived h) := by
  unfold State.takeArrived
  split
  · rename_i x y px py dog hl
    simp only
    split
    · exact Path.trans (Path.one (Move.command h .empty (by simp))) (State.setHead_path _ h _)
    · rename_i hs
      exact State.travelEnded_path s h x y px py dog hl (by simpa [State.isIn] using hs)
  · exact Path.refl s

theorem State.actionEnded_path (h : HeadId) (k : Nozzle) (ok : Bool) : Path sc s (s.actionEnded h k ok) := by
  unfold State.actionEnded
  split
  · exact Path.refl s
  · rename_i l _ _
    refine ((State.report_path s h l k ok).trans (State.holdTest_path _)).trans ?_
    simp only
    split
    · exact State.setHead_path _ h _
    · exact State.push_path _ _ rfl

theorem State.judgeAttempt_path (h : HeadId) (k : Nozzle) (a : Action) (n : Nat) (v : Bool) :
    Path sc s (s.judgeAttempt h k a n v) := by
  unfold State.judgeAttempt
  split
  · exact State.actionEnded_path s h k _
  · split
    · rename_i hc
      exact State.sendAct_path s h k a _ (State.not_halted_of hc.2)
    · exact State.actionEnded_path s h k _

theorem State.takeActDone_path (h : HeadId) (k : Nozzle) (v : Bool) : Path sc s (s.takeActDone h k v) := by
  unfold State.takeActDone
  split
  · split
    · exact Path.trans (Path.one (Move.command h .empty (by simp))) (State.judgeAttempt_path _ h k _ _ v)
    · exact Path.refl s
  · exact Path.refl s

/-! ## Hold, halt and CLOSE -/

theorem State.holdHead_path (h : HeadId) : Path sc s (s.holdHead h) := by
  unfold State.holdHead
  split
  · exact (State.setHeadState_path s h _).trans (State.holdTest_path _)
  · exact (State.setHeadState_path s h _).trans (State.holdTest_path _)
  · exact (State.dissolve_path s h _ _).trans (State.restAfterJob_path _ h)
  · exact (State.dissolve_path s h _ _).trans (State.restAfterJob_path _ h)
  · exact (State.dissolve_path s h _ _).trans (State.restAfterJob_path _ h)
  all_goals exact Path.refl s

theorem State.enterHolding_path (hv : sc ≠ .work) (auto : Bool) (hw : s.working = true) : Path sc s (s.enterHolding auto) := by
  have h1 : Path sc s (s.setDevice .holding) :=
    Path.one (Move.control _ hv (.inr (by rcases State.working_state hw with e | e <;> rw [e] <;> rfl)))
  refine h1.trans ?_
  unfold State.enterHolding
  simp only
  split
  · exact (State.setFlag_path _ .state).trans ((State.holdHead_path _ .a).trans ((State.holdHead_path _ .b).trans
      (State.holdTest_path _)))
  · exact (State.holdHead_path _ .a).trans ((State.holdHead_path _ .b).trans (State.holdTest_path _))

theorem State.haltHead_path (h : HeadId) : Path sc s (s.haltHead h) :=
  (State.dissolve_path s h _ _).trans (State.setHeadState_path _ h .stopped)

theorem State.enterHalted_path (hv : sc ≠ .work) (hd : deviceEdge s.control.state .halted = true) : Path sc s s.enterHalted := by
  have hs : s.control.state ≠ .halted := by intro e; rw [e] at hd; cases hd
  have h1 : Path sc s
      ({ (s.setFlag .state).send .stopAll with control := { s.control with state := .halted, holdAck := false } }) :=
    (State.setFlag_path s .state).trans ((State.send_path _ .stopAll (by simp [Message.allowedIn, hs])).trans
      (Path.one (Move.control _ hv (.inr (by simpa using hd)))))
  have e : { (s.setFlag .state).send .stopAll with control := { s.control with state := .halted, holdAck := false } } =
      ({ s with control := { s.control with state := .halted, holdAck := false } }.setFlag .state).send .stopAll := by
    unfold State.setFlag State.setRegisters
    simp only
    split <;> rfl
  rw [e] at h1
  exact h1.trans ((Path.one Move.stopDogs).trans ((State.haltHead_path _ .a).trans (State.haltHead_path _ .b)))

theorem State.closeHead_path (f : FrameId) (h : HeadId) : Path sc s (s.closeHead f h) := by
  unfold State.closeHead
  simp only
  split
  · exact (State.dissolve_path s h _ _).trans ((State.setHeadState_path _ h _).trans (State.push_path _ _ rfl))
  · exact Path.refl s

theorem State.closeFrame_path (f : FrameId) : Path sc s (s.closeFrame f) := by
  unfold State.closeFrame
  split
  · rename_i ha
    exact (State.setFrame_path s f { s.frame f with state := .close }
      fun _ => ⟨by simp [FrameRecord.inUse, ha], rfl⟩).trans
      ((State.closeHead_path _ f .a).trans ((State.closeHead_path _ f .b).trans (State.closedTest_path _ f)))
  · exact Path.refl s

/-! ## Losses, drive faults and watchdogs -/

theorem State.takeVacuumLost_path (hv : sc ≠ .work) (h : HeadId) (k : Nozzle) : Path sc s (s.takeVacuumLost h k) := by
  unfold State.takeVacuumLost
  split
  · exact Path.refl s
  · split
    · exact Path.refl s
    · rename_i u _ _
      refine ((State.declareLost_path s u .vacuumLost).trans (State.setSlot_path _ h k none)).trans ?_
      simp only
      split
      · rename_i hw
        exact State.enterHolding_path _ hv true hw
      · exact Path.refl _

theorem State.takeDriveFault_path (hv : sc ≠ .work) (t : FaultTarget) : Path sc s (s.takeDriveFault t) := by
  unfold State.takeDriveFault
  split
  · exact Path.refl s
  · rename_i hu
    refine (State.raise_path s (faultNotice t)).trans ?_
    simp only
    split
    · exact Path.refl _
    · rename_i hh
      refine State.enterHalted_path _ hv ?_
      simp only [State.raise_control, State.isIn, beq_iff_eq] at hu hh ⊢
      cases e : s.control.state <;> simp_all [deviceEdge]

theorem State.watched_edge {s : State} (h : s.watched = true) : deviceEdge s.control.state .halted = true := by
  simp only [State.watched, State.working, State.isIn, Bool.or_eq_true, beq_iff_eq] at h
  rcases h with (e | e) | e <;> rw [e] <;> rfl

theorem State.travelTimeout_path (hv : sc ≠ .work) (h : HeadId) : Path sc s (s.travelTimeout h) := by
  unfold State.travelTimeout
  split
  · rename_i hw _
    refine (State.reach_path s _).trans ((State.raise_path _ _).trans (State.enterHalted_path _ hv ?_))
    simpa using State.watched_edge hw
  · exact Path.refl s

theorem State.actionTimeout_path (hv : sc ≠ .work) (h : HeadId) : Path sc s (s.actionTimeout h) := by
  unfold State.actionTimeout
  split
  · rename_i hw _
    refine (State.reach_path s _).trans ((State.raise_path _ _).trans (State.enterHalted_path _ hv ?_))
    simpa using State.watched_edge hw
  · exact Path.refl s

/-! ## The configuration loader -/

theorem State.takeAllPosted_path : Path sc s s.takeAllPosted := by
  refine Path.foldl _ (fun s f => ?_) _ s
  split
  · exact State.takePosted_path s f
  · exact Path.refl s

theorem State.refuseArm_path (hv : sc ≠ .work) (c : Nat) (o : Option Nat) : Path sc s (s.refuseArm c o) := by
  have h : Path sc s ({ s with control := { s.control with arming := none } }) := Path.one (Move.control _ hv (.inl rfl))
  refine h.trans ((State.setResult_path _ hv c).trans ?_)
  unfold State.refuseArm
  simp only
  split
  · exact State.takeAllPosted_path _
  · exact (State.setErrorAddress_path _ hv _).trans (State.takeAllPosted_path _)

theorem State.startArm_path (hv : sc ≠ .work) (hs : s.control.state = .unarmed) : Path sc s s.startArm := by
  refine (State.setResult_path s hv 1).trans ?_
  unfold State.startArm
  simp only
  split
  · exact State.refuseArm_path _ hv _ _
  · refine Path.trans (Path.one (Move.control _ hv (.inl ?_))) ((State.send_path _ (.positionRequest .a) ?_).trans
      (State.send_path _ (.positionRequest .b) ?_))
    · rfl
    · simp [Message.allowedIn, hs]
    · simp [Message.allowedIn, hs]

theorem State.rejectStale_path (f : FrameId) : Path sc s (s.rejectStale f) := by
  unfold State.rejectStale
  simp only
  split
  · exact (State.writeReason_path s f _ _).trans ((State.writeFrameState_path _ f _).trans
      (State.setFrame_path _ f _ fun h => by simp [FrameRecord.inUse] at h))
  · exact Path.refl s

theorem State.armFrames_path : Path sc s s.armFrames := by
  refine ((Path.foldl _ (fun s f => State.rejectStale_path s f) allFrames s).trans (State.takeAllPosted_path _)).trans ?_
  unfold State.armFrames
  simp only
  split
  · exact State.setFlag_path _ .tray
  · exact Path.refl _

theorem State.completeArm_path (hv : sc ≠ .work) (c : Shadow) (pa pb : Point) (hs : s.control.state = .unarmed)
    (hp : positionsFit c.deck pa pb = true) : Path sc s (s.completeArm c pa pb) := by
  unfold State.completeArm
  refine Path.trans (Path.one (Move.armed hv c pa pb hs hp _ _ _ _ ?_)) ((State.setResult_path _ hv 0).trans (State.armFrames_path _))
  rfl

theorem State.takePosition_path (hv : sc ≠ .work) (h : HeadId) (p : Point) : Path sc s (s.takePosition h p) := by
  unfold State.takePosition
  split
  · exact Path.refl s
  · exact Path.refl s
  · rename_i w hs _
    split
    · exact Path.refl s
    · simp only
      split
      · split
        · rename_i hp
          exact State.completeArm_path s hv _ _ _ ((State.isIn_iff s _).1 hs) hp
        · exact State.refuseArm_path s hv _ _
      · exact Path.one (Move.control _ hv (.inl rfl))

theorem State.positionWaitOver_path (hv : sc ≠ .work) : Path sc s s.positionWaitOver := by
  unfold State.positionWaitOver
  split
  · exact Path.refl s
  · exact (State.reach_path s _).trans (State.refuseArm_path _ hv _ _)

theorem State.writeBack_path (i : Site) (w : Word) : Path sc s (s.writeBack i w) := by
  unfold State.writeBack
  split
  · refine State.poke_path s _ _ fun j hj => ?_
    rw [Nat.add_assoc]
    exact deviceOwned_flags i (8 + j) (by omega)
  · exact Path.refl s

theorem State.takeEdits_path : Path sc s s.takeEdits := by
  unfold State.takeEdits
  generalize allSites = l
  simp only
  exact Path.trans (Path.foldl (fun (s : State) i => s.editSite i _ _) (fun s i => State.editSite_path s i _ _) l s)
    (Path.foldl (fun (s : State) i => s.writeBack i _) (fun s i => State.writeBack_path s i _) l _)

theorem State.runFromHeld_path (hv : sc ≠ .work) : Path sc s s.runFromHeld := by
  unfold State.runFromHeld
  split
  · exact (State.setResult_path s hv _).trans (State.setErrorAddress_path _ hv _)
  · have h1 : Path sc s { s with shadow := some (rereadInto s.cfg s.mem) } := Path.one (Move.shadow _ hv rfl)
    refine (h1.trans ((State.setResult_path _ hv 0).trans (State.takeEdits_path _))).trans ?_
    simp only
    split
    · exact (State.reroute_path _).trans (State.push_path _ _ (Scope.bars_runEntry hv))
    · exact State.push_path _ _ (Scope.bars_runEntry hv)

theorem State.wakeHead_path (h : HeadId) : Path sc s (s.wakeHead h) := by
  unfold State.wakeHead
  split
  · exact State.setHeadState_path s h _
  · exact Path.refl s

theorem State.enterFromHeld_path (hv : sc ≠ .work) : Path sc s s.enterFromHeld := by
  unfold State.enterFromHeld
  split
  · rename_i hh
    have hs := (State.isIn_iff s _).1 hh
    have h1 : Path sc s ({ s with control := { s.control with
        state := if s.control.drainLatch then .draining else .run, holdAck := false } }) := by
      refine Path.one (Move.control _ hv (.inr ?_))
      rw [hs]
      simp only
      split <;> rfl
    refine h1.trans ?_
    simp only
    split
    · exact (State.reroute_path _).trans ((State.wakeHead_path _ .a).trans ((State.wakeHead_path _ .b).trans
        ((State.push_path _ _ rfl).trans (State.push_path _ _ rfl))))
    · exact (State.wakeHead_path _ .a).trans ((State.wakeHead_path _ .b).trans
        ((State.push_path _ _ rfl).trans (State.push_path _ _ rfl)))
  · exact Path.refl s

/-! ## The host's writes -/

theorem State.refuseFrameWrite_path (hv : sc ≠ .work) (f : FrameId) : Path sc s (s.refuseFrameWrite f) := by
  refine (State.setErrorAddress_path s hv (Config.frameBase f)).trans ?_
  unfold State.refuseFrameWrite
  simp only
  split
  · exact Path.refl _
  · exact State.raise_path _ _

theorem State.acceptPosted_path (f : FrameId) : Path sc s (s.acceptPosted f) := by
  refine (State.writeFrameState_path s f .posted).trans ?_
  unfold State.acceptPosted
  simp only
  split
  · exact Path.refl _
  · exact State.takePosted_path _ f

theorem State.acceptClose_path (f : FrameId) : Path sc s (s.acceptClose f) := by
  refine (State.writeFrameState_path s f .close).trans ?_
  unfold State.acceptClose
  simp only
  split
  · exact Path.refl _
  · exact State.closeFrame_path _ f

theorem State.acceptFree_path (f : FrameId) : Path sc s (s.acceptFree f) :=
  (State.writeFrameState_path s f .free).trans
    (State.setFrame_path _ f FrameRecord.reset fun h => by simp [FrameRecord.inUse, FrameRecord.reset] at h)

theorem State.frameWrite_path (hv : sc ≠ .work) (f : FrameId) (narrow : Bool) (v : Word) : Path sc s (s.frameWrite f narrow v) := by
  unfold State.frameWrite
  simp only
  split
  · exact State.refuseFrameWrite_path s hv f
  · split
    · exact Path.refl s
    · split
      · exact State.acceptPosted_path s f
      · split
        · exact State.acceptClose_path s f
        · split
          · exact State.acceptFree_path s f
          · exact State.refuseFrameWrite_path s hv f

theorem State.wordWrite_path (a : Nat) (e : BitVec 4) (v : Word) : Path .host s (s.wordWrite a e v) := by
  have hv : Scope.host ≠ .work := by decide
  unfold State.wordWrite
  split
  · exact Path.refl s
  · split
    · exact State.frameWrite_path s hv _ _ _
    · exact State.slotWrite_path s hv _ _ _
    · exact Path.one (Move.store a e v rfl)

theorem State.refuseRequest_path (hv : sc ≠ .work) : Path sc s s.refuseRequest := by
  unfold State.refuseRequest
  split <;> exact State.setResult_path s hv _

theorem State.requestArm_path (hv : sc ≠ .work) : Path sc s s.requestArm := by
  unfold State.requestArm
  split
  · rename_i h
    simp only [Bool.and_eq_true] at h
    exact State.startArm_path s hv ((State.isIn_iff s _).1 h.1)
  · exact State.refuseRequest_path s hv

theorem State.requestRun_path (hv : sc ≠ .work) : Path sc s s.requestRun := by
  unfold State.requestRun
  split
  · exact State.runFromHeld_path s hv
  · rename_i hs
    refine Path.trans (Path.one (Move.control { s.control with state := .run, drainLatch := false } hv (.inr ?_)))
      ((State.setResult_path _ hv 0).trans (State.push_path _ _ rfl))
    rw [hs]; rfl
  all_goals exact State.refuseRequest_path s hv

theorem State.requestHold_path (hv : sc ≠ .work) : Path sc s s.requestHold := by
  unfold State.requestHold
  split
  · rename_i hw
    exact (State.setResult_path s hv 0).trans (State.enterHolding_path _ hv false hw)
  · exact State.refuseRequest_path s hv

theorem State.requestDrain_path (hv : sc ≠ .work) : Path sc s s.requestDrain := by
  unfold State.requestDrain
  split
  · exact Path.trans (Path.one (Move.control { s.control with drainLatch := true } hv (.inl rfl))) (State.setResult_path _ hv 0)
  · rename_i hs
    refine Path.trans (Path.one (Move.control { s.control with state := .draining, drainLatch := true } hv (.inr ?_)))
      ((State.setResult_path _ hv 0).trans ((State.reroute_path _).trans ((State.push_path _ _ rfl).trans
        (State.push_path _ _ rfl))))
    rw [hs]; rfl
  all_goals exact State.refuseRequest_path s hv

/-- Every request but RESET, code 5. -/
theorem State.takeRequest_path (hv : sc ≠ .work) (c : Nat) (hc : c ≠ 5) : Path sc s (s.takeRequest c) := by
  unfold State.takeRequest
  split
  · exact Path.refl s
  · exact State.requestArm_path s hv
  · exact State.requestRun_path s hv
  · exact State.requestHold_path s hv
  · exact State.requestDrain_path s hv
  · exact absurd rfl hc
  · exact State.refuseRequest_path s hv

/-! ## The follow-up work of an event -/

/-- Nothing that the scope bars waits in line. -/
def State.clearFor (s : State) (sc : Scope) : Prop := ∀ t ∈ s.agenda ++ s.trailing, sc.bars t = false

theorem State.atRest.clearFor {s : State} (h : s.atRest) (sc : Scope) : s.clearFor sc := by
  intro t ht
  rw [h.1, h.2] at ht
  cases ht

theorem State.runTask_path (t : Task) (ht : sc = .host ∨ sc.bars t = false) : Path sc s (s.runTask t) := by
  cases t with
  | entered i => exact State.requestEntered_path s i
  | selectIdle => exact State.selectResting_path s
  | selectHead h => exact State.select_path s h
  | legEnd h ok => exact State.legEnded_path s h ok
  | runEntry => exact State.enterFromHeld_path s (by rintro rfl; rcases ht with h | h <;> cases h)
  | drainTest => exact State.drainTest_path s
  | expiry i => exact State.timerExpired_path s i
  | hostWord a e v =>
    rcases ht with rfl | h
    · exact State.wordWrite_path s a e v
    · cases h

/-- Every move keeps out what its scope bars. -/
theorem Move.clearFor {s t : State} (hm : Move sc s t) (hn : s.clearFor sc) : t.clearFor sc := by
  cases hm with
  | inner h => rw [h]; exact hn
  | tasks a l h =>
    intro x hx
    by_contra hc
    rw [Bool.not_eq_false] at hc
    rw [hn x (h x hx hc)] at hc
    exact Bool.noConfusion hc
  | attention f _ => intro x hx; simp only [State.setRegisters_agenda, State.setRegisters_trailing] at hx; exact hn x hx
  | _ => exact hn

theorem Path.clearFor {s t : State} (h : Path sc s t) (hn : s.clearFor sc) : t.clearFor sc :=
  Path.keeps (fun _ _ hm => hm.clearFor) h hn

theorem cascade_path (n : Nat) (h : sc = .host ∨ s.clearFor sc) : Path sc s (cascade n s) := by
  induction n generalizing s with
  | zero => exact Path.refl s
  | succ n ih =>
    unfold cascade
    split
    · rename_i t rest ha
      have h1 : Path sc s { s with agenda := rest } := Path.one (Move.tasks rest s.trailing fun x hx _ => by
        rw [ha]
        simp only [List.mem_append, List.mem_cons] at hx ⊢
        tauto)
      have h2 := h1.trans (State.runTask_path { s with agenda := rest } t
        (h.imp_right fun h => h t (by rw [ha]; simp)))
      exact h2.trans (ih _ (h.imp_right h2.clearFor))
    · rename_i t rest ha hl
      have h1 : Path sc s { s with trailing := rest } := Path.one (Move.tasks s.agenda rest fun x hx _ => by
        rw [hl]
        simp only [List.mem_append, List.mem_cons] at hx ⊢
        tauto)
      have h2 := h1.trans (State.runTask_path { s with trailing := rest } t
        (h.imp_right fun h => h t (by rw [ha, hl]; simp)))
      exact h2.trans (ih _ (h.imp_right h2.clearFor))
    · exact Path.refl s

/-- An event without follow-up work ends where its own effects left the state. -/
theorem State.finish_rest (h : s.atRest) : s.finish = .next s := by
  unfold State.finish
  congr 1
  rw [show Config.cascadeFuel = 99999999 + 1 from rfl]
  unfold cascade
  rw [h.1, h.2]

end Sys2Proof.Machine
end

