-- ==== Sys2Proof/Laws/Commands.lean ====
section
/-! SUPPORT. What any command can do: a beginning of its own (`commandStart`: the threshold, ATTENTION, LEVELS, a reset, the
words of a host write put in line), and then a path of `Move`s. -/

namespace Sys2Proof.Machine

/-- The beginning of a CONTROL write: the threshold is set, and a RESET resets. -/
def State.controlStart (s : State) (code : Nat) (threshold : BitVec 3) : State :=
  if code = 5 then (s.setThreshold threshold).softReset else s.setThreshold threshold

/-- The beginning of a write into the register window. -/
def State.registerStart (s : State) (o : BitVec 5) (e : BitVec 4) (v : Word) : State :=
  if fullWrite e then
    match o.toNat / 4 with
    | 1 => s.controlStart (v.extractLsb' 0 3).toNat (v.extractLsb' 8 3)
    | 3 => s.clearFlags v
    | 4 => s.setLevels v
    | _ => s
  else s

/-- What a command does first, beyond the `Move`s that follow. -/
def commandStart (c : Instr) (s : State) : State :=
  match c with
  | .arm t => s.controlStart 1 t
  | .run t => s.controlStart 2 t
  | .hold t => s.controlStart 3 t
  | .drain t => s.controlStart 4 t
  | .reset t => s.controlStart 5 t
  | .undefinedRequest _ t => s.controlStart 6 t
  | .attentionThreshold t => s.controlStart 0 t
  | .attentionClear v => s.clearFlags v
  | .levels v => s.setLevels v
  | .registerWriteDropped o e v => s.registerStart o e v
  | .powerOnReset => s.powerOn
  | .exchangeMemoryWrite o b => { s with trailing := wordTasks o.toNat b ++ s.trailing }
  | _ => s

variable {sc : Scope} (s : State)

theorem State.fromTester_path (n : Nat) (f : Site → State) (h : ∀ i, Path sc s (f i)) :
    Path sc s (s.fromTester n f) := by
  unfold State.fromTester
  split
  · split
    · exact Path.refl s
    · exact h _
  · exact Path.refl s

theorem State.takeEnd_path (i : Site) (b : Byte) : Path sc s (s.takeEnd i b) := by
  unfold State.takeEnd
  split
  · exact State.normalEnd_path s i b
  · exact State.lateEnd_path s i b

theorem State.controlWrite_path (hv : sc ≠ .work) (n : Nat) (t : BitVec 3) : Path sc (s.controlStart n t) (s.controlWrite n t) := by
  unfold State.controlStart State.controlWrite
  split
  · rename_i h
    subst h
    exact Path.refl _
  · rename_i h
    exact State.takeRequest_path _ hv n h

theorem State.registerWrite_path (hv : sc ≠ .work) (o : BitVec 5) (e : BitVec 4) (v : Word) :
    Path sc (s.registerStart o e v) (s.registerWrite o e v) := by
  unfold State.registerStart State.registerWrite
  generalize o.toNat / 4 = n
  split
  · by_cases h1 : n = 1
    · subst h1; exact State.controlWrite_path s hv _ _
    · by_cases h4 : n = 4
      · subst h4; exact Path.refl _
      · by_cases h3 : n = 3
        · subst h3; exact Path.refl _
        · simp only
          exact Path.refl _
  · exact Path.refl s

theorem State.finish_path {s t u : State} (h : s.finish = .next t) (hp : Path sc u s)
    (hh : sc = .host ∨ u.clearFor sc) : Path sc u t := by
  cases h
  exact hp.trans (cascade_path s _ (hh.imp_right hp.clearFor))

/-- Every command that goes on is its beginning followed by a path. The path makes host writes only when the command writes
bytes of exchange memory, or when host words were left over. -/
theorem exec_path (hv : sc ≠ .work) {c : Instr} {s t : State} (h : exec c s = .next t)
    (hh : sc = .host ∨ (commandStart c s).clearFor sc) : Path sc (commandStart c s) t := by
  cases c with
  | ready site up => exact State.finish_path h (State.fromTester_path s _ _ fun i => State.takeReady_path s i up) hh
  | endOfTest site bin => exact State.finish_path h (State.fromTester_path s _ _ fun i => State.takeEnd_path s i bin) hh
  | contactExpiry i => exact State.finish_path h (State.timerEvent_path s i _) hh
  | eotWatchdogExpiry i => exact State.finish_path h (State.timerEvent_path s i _) hh
  | releaseExpiry i => exact State.finish_path h (State.timerEvent_path s i _) hh
  | recoveryExpiry i => exact State.finish_path h (State.timerEvent_path s i _) hh
  | arrived k => exact State.finish_path h (State.takeArrived_path s k) hh
  | actDone k n v => exact State.finish_path h (State.takeActDone_path s k n v) hh
  | position k x y => exact State.finish_path h (State.takePosition_path s hv k _) hh
  | positionWaitExpiry => exact State.finish_path h (State.positionWaitOver_path s hv) hh
  | vacuumLost k n => exact State.finish_path h (State.takeVacuumLost_path s hv k n) hh
  | driveFault f => exact State.finish_path h (State.takeDriveFault_path s hv f) hh
  | travelWatchdogExpiry k => exact State.finish_path h (State.travelTimeout_path s hv k) hh
  | actionWatchdogExpiry k => exact State.finish_path h (State.actionTimeout_path s hv k) hh
  | arm v => exact State.finish_path h (State.controlWrite_path s hv 1 v) hh
  | run v => exact State.finish_path h (State.controlWrite_path s hv 2 v) hh
  | hold v => exact State.finish_path h (State.controlWrite_path s hv 3 v) hh
  | drain v => exact State.finish_path h (State.controlWrite_path s hv 4 v) hh
  | reset v => exact State.finish_path h (State.controlWrite_path s hv 5 v) hh
  | undefinedRequest b v =>
    refine State.finish_path h ?_ hh
    have e : s.controlStart 7 v = s.controlStart 6 v := by simp only [State.controlStart]; rfl
    cases b
    · exact State.controlWrite_path s hv 6 v
    · change Path sc (s.controlStart 6 v) (s.controlWrite 7 v)
      rw [← e]
      exact State.controlWrite_path s hv 7 v
  | attentionThreshold v => exact State.finish_path h (State.controlWrite_path s hv 0 v) hh
  | attentionClear v => exact State.finish_path (s := s.clearFlags v) (u := s.clearFlags v) h (Path.refl _) hh
  | levels v => exact State.finish_path (s := s.setLevels v) (u := s.setLevels v) h (Path.refl _) hh
  | registerWriteDropped o e v =>
    exact State.finish_path (s := s.registerWrite o e v) h (State.registerWrite_path s hv o e v) hh
  | powerOnReset => exact State.finish_path (s := s.powerOn) (u := s.powerOn) h (Path.refl _) hh
  | exchangeMemoryWrite o b =>
    change (if _ then _ else _) = _ at h
    split at h
    · cases h
    · exact State.finish_path (u := { s with trailing := wordTasks o.toNat b ++ s.trailing }) h (Path.refl _) hh
  | posted f => exact State.finish_path h (State.frameWrite_path s hv f _ _) hh
  | close f => exact State.finish_path h (State.frameWrite_path s hv f _ _) hh
  | frameFree f => exact State.finish_path h (State.frameWrite_path s hv f _ _) hh
  | frameWriteRefused f e v =>
    refine State.finish_path h ?_ hh
    split
    · exact Path.refl s
    · exact State.frameWrite_path s hv f _ _
  | slotFree k => exact State.finish_path h (State.slotWrite_path s hv k _ _) hh
  | slotWriteRefused k e v =>
    refine State.finish_path h ?_ hh
    split
    · exact Path.refl s
    · exact State.slotWrite_path s hv k _ _

/-- Every command but a write of bytes past the end of exchange memory goes on. -/
theorem exec_goes_on (c : Instr) (s : State) :
    (∃ t, exec c s = .next t) ∨ ∃ o b, c = .exchangeMemoryWrite o b ∧ Config.memorySize < o.toNat + b.length := by
  cases c with
  | exchangeMemoryWrite o b =>
    by_cases h : Config.memorySize < o.toNat + b.length
    · exact .inr ⟨o, b, rfl, h⟩
    · exact .inl ⟨_, by simp only [exec, execExchangeMemoryWrite, if_neg h]; rfl⟩
  | _ => exact .inl ⟨_, rfl⟩

end Sys2Proof.Machine
end

