-- ==== Sys2Proof/Laws/Keeps.lean ====
section
/-! SUPPORT. What each kind of change keeps: the canonical form of memory, the heads apart, the attention unit's answer, one
frame for a station, the bound of the holding queue, the table of device states. With Laws/Commands.lean these say it of every
command. -/

namespace Sys2Proof.Machine

variable {sc : Scope} {s t : State}

theorem storeEnabled_wf (m : List Host.Cell) (a : Nat) (e : BitVec 4) (v : Word) (h : Memory.wf m = true) :
    Memory.wf (storeEnabled m a e v) = true := by
  have step : ∀ (l : List Nat) (m : List Host.Cell), Memory.wf m = true →
      Memory.wf (l.foldl (fun m j => if e.getLsbD j then writeByte m (a + j) (v.extractLsb' (8 * j) 8) else m) m) = true := by
    intro l
    induction l with
    | nil => intro m h; exact h
    | cons j l ih =>
      intro m h
      refine ih _ ?_
      beta_reduce
      by_cases hj : e.getLsbD j = true
      · rw [if_pos hj]; exact Memory.wf_writeByte _ _ h
      · rw [if_neg hj]; exact h
  exact step _ m h

/-! ## One kind of change at a time -/

theorem Move.wf (h : Move sc s t) (hs : Memory.wf s.mem = true) : Memory.wf t.mem = true := by
  cases h with
  | inner h => rw [h]; exact hs
  | mem m h => exact h.wf hs
  | store a e v _ => exact storeEnabled_wf _ _ _ _ hs
  | attention f _ => simpa using hs
  | _ => exact hs

theorem Move.pending (h : Move sc s t) : t.pending = s.pending := by
  cases h with
  | inner h => rw [h]; rfl
  | attention f _ => simp
  | _ => rfl

theorem Move.levels (h : Move sc s t) : t.regs.levels = s.regs.levels ∧ t.regs.threshold = s.regs.threshold := by
  cases h with
  | inner h => rw [h]; exact ⟨rfl, rfl⟩
  | attention f _ => simp
  | _ => exact ⟨rfl, rfl⟩

theorem Move.flags (h : Move sc s t) : s.regs.attention &&& t.regs.attention = s.regs.attention := by
  cases h with
  | inner h => rw [h]; simp [State.withInner]
  | attention f h => simpa using h
  | _ => simp [State.setMem, State.send, State.setDevice, State.setWaiting, State.setReserved, State.setCommand]

theorem Move.attentionTrue (h : Move sc s t) (hs : s.attentionTrue) : t.attentionTrue := by
  cases h with
  | inner h => rw [h]; exact hs
  | attention f _ =>
    unfold State.attentionTrue
    rw [State.setRegisters_regs]
    exact ⟨rfl, rfl⟩
  | _ => exact hs

theorem Move.distinct (h : Move sc s t) (hs : s.trays.distinct) : t.trays.distinct := by
  cases h with
  | inner h => rw [h]; exact hs
  | attention f _ => simpa using hs
  | trays T h => exact h hs
  | _ => exact hs

theorem Move.queue (h : Move sc s t) (hs : s.board.queue.length ≤ 8) : t.board.queue.length ≤ 8 := by
  cases h with
  | inner h => rw [h]; exact hs
  | attention f _ => simpa using hs
  | board b h => exact h hs
  | _ => exact hs

/-- The device state changes by the table of R173. -/
theorem Move.device (h : Move sc s t) :
    t.control.state = s.control.state ∨ deviceEdge s.control.state t.control.state = true := by
  cases h with
  | inner h => rw [h]; exact .inl rfl
  | attention f _ => exact .inl (by simp)
  | control c _ h => exact h
  | holdDone h => exact .inr (by rw [h]; rfl)
  | drainDone h => exact .inr (by rw [h]; rfl)
  | armed _ c pa pb hs hp si u p k hk => exact .inr (by rw [hs, hk]; rfl)
  | _ => exact .inl rfl

/-- What is sent: messages that the device state lets out. -/
theorem Move.sends (h : Move sc s t) :
    t.outbox = s.outbox ∨ ∃ m : Message, t.outbox = s.outbox ++ [m] ∧ m.allowedIn s.control.state = true := by
  cases h with
  | inner h => rw [h]; exact .inl rfl
  | attention f _ =>
    rw [State.setRegisters_outbox]
    split
    · exact .inr ⟨.interrupt, rfl, rfl⟩
    · exact .inl (List.append_nil _)
  | send m h => exact .inr ⟨m, rfl, h⟩
  | _ => exact .inl rfl

/-- Bytes that the 7340 does not own change only by host writes. -/
theorem Move.bytes (h : Move sc s t) (hsc : sc ≠ .host) (a : Nat) (ha : deviceOwned a = false) :
    readByte t.mem a = readByte s.mem a := by
  cases h with
  | inner h => rw [h]; rfl
  | mem m h => exact h.kept a ha
  | store _ _ _ h => exact absurd h hsc
  | attention f _ => simp
  | _ => rfl

/-- Follow-up work completes a hold or a drain and changes nothing else of operating-state control; it keeps the shadow
copies and the result. -/
theorem Move.work (h : Move .work s t) :
    (t.control = s.control ∨
      (s.control.state = .holding ∧ t.control = { s.control with state := .held, holdAck := true }) ∨
      (s.control.state = .draining ∧ t.control = { s.control with state := .drained })) ∧
    t.shadow = s.shadow ∧ t.regs.result = s.regs.result ∧ t.regs.errorAddress = s.regs.errorAddress := by
  cases h with
  | inner h => rw [h]; exact ⟨.inl rfl, rfl, rfl, rfl⟩
  | attention f _ => simp
  | holdDone h => exact ⟨.inr (.inl ⟨h, rfl⟩), rfl, rfl, rfl⟩
  | drainDone h => exact ⟨.inr (.inr ⟨h, rfl⟩), rfl, rfl, rfl⟩
  | status _ _ h => exact absurd rfl h
  | control _ h _ => exact absurd rfl h
  | shadow _ h _ => exact absurd rfl h
  | armed h => exact absurd rfl h
  | store _ _ _ h => cases h
  | _ => exact ⟨.inl rfl, rfl, rfl, rfl⟩

/-! ## The rail -/

@[simp] theorem Pair.get_other_set {α : Type} (p : Pair α) (h : HeadId) (x : α) : (p.set h x).get h.other = p.get h.other := by
  cases h <;> rfl

/-- An interval found compatible keeps the heads apart once it is reserved (R79, R83). -/
theorem State.headsApart_of_compatible (k : HeadId) (iv : Interval) (hc : s.compatible k iv = true) :
    ∀ a b : Interval, (s.rail.reserved.set k (some iv)).a = some a → (s.rail.reserved.set k (some iv)).b = some b →
      a.hi + s.deck.separation ≤ b.lo := by
  intro a b ha hb
  unfold State.compatible at hc
  cases k with
  | a =>
    cases ha
    have hb' : s.rail.reserved.get (HeadId.other .a) = some b := hb
    rw [hb'] at hc
    simpa using hc
  | b =>
    cases hb
    have ha' : s.rail.reserved.get (HeadId.other .b) = some a := ha
    rw [ha'] at hc
    simpa using hc

/-- Only the rail, the command records and the separation matter to the rail's safety. -/
theorem State.RailSafe.of_same (hs : s.RailSafe) (hr : t.rail = s.rail) (hl : t.link = s.link) (hd : t.deck = s.deck) :
    t.RailSafe := by
  refine ⟨?_, ?_, ?_, ?_⟩
  · intro a b; rw [hr, hd]; exact hs.apart a b
  · intro k iv; rw [hr]; exact hs.ordered k iv
  · intro k x y px py w; rw [hl, hr]; exact hs.travel k x y px py w
  · intro k w; rw [hr]; exact hs.waiting k w

theorem CommandRecord.stopDog_travel {c : CommandRecord} {x y : Nat} {px py : Fin 4} {w : Watchdog}
    (h : c.stopDog = .travel x y px py w) : ∃ w', c = .travel x y px py w' := by
  cases c with
  | empty => cases h
  | travel x' y' px' py' w' => cases h; exact ⟨w', rfl⟩
  | act _ _ _ _ => cases h

theorem Move.railSafe (h : Move sc s t) (hs : s.RailSafe) : t.RailSafe := by
  cases h with
  | inner h => rw [h]; exact hs.of_same rfl rfl rfl
  | attention f _ => exact hs.of_same (by simp) (by simp) (by simp [State.deck, State.cfg])
  | waiting k w h =>
    refine ⟨hs.apart, hs.ordered, hs.travel, fun k' v hv => ?_⟩
    by_cases e : k' = k
    · subst e
      exact h v (by simpa [State.setWaiting, Pair.get_set] using hv)
    · exact hs.waiting k' v (by simpa [State.setWaiting, Pair.get_set, e, Ne.symm e] using hv)
  | travel k x y px py dog iv hw hc hx =>
    have hiv : iv.holds x := by
      rcases hx with hx | ⟨w, hw, rfl, rfl⟩
      · exact hx
      · exact hs.waiting k w hw
    refine ⟨State.headsApart_of_compatible k iv hc, fun k' v hv => ?_, fun k' x' y' px' py' w hv => ?_, fun k' v hv => ?_⟩
    · by_cases e : k' = k
      · subst e
        simp only [State.setReserved, State.setWaiting, State.setCommand, Pair.get_set, if_true] at hv
        cases hv
        exact hiv.1.trans hiv.2
      · exact hs.ordered k' v (by
          simpa [State.setReserved, State.setWaiting, State.setCommand, Pair.get_set, e, Ne.symm e] using hv)
    · by_cases e : k' = k
      · subst e
        simp only [State.setReserved, State.setWaiting, State.setCommand, Pair.get_set, if_true] at hv ⊢
        cases hv
        exact ⟨iv, rfl, hiv⟩
      · have := hs.travel k' x' y' px' py' w (by
          simpa [State.setReserved, State.setWaiting, State.setCommand, Pair.get_set, e, Ne.symm e] using hv)
        simpa [State.setReserved, State.setWaiting, State.setCommand, Pair.get_set, e, Ne.symm e] using this
    · by_cases e : k' = k
      · subst e
        simp [State.setReserved, State.setWaiting, State.setCommand] at hv
      · exact hs.waiting k' v (by
          simpa [State.setReserved, State.setWaiting, State.setCommand, Pair.get_set, e, Ne.symm e] using hv)
  | command k c h =>
    refine ⟨hs.apart, hs.ordered, fun k' x y px py w hv => ?_, hs.waiting⟩
    by_cases e : k' = k
    · subst e
      exact absurd (by simpa [State.setCommand, Pair.get_set] using hv) (h x y px py w)
    · exact hs.travel k' x y px py w (by simpa [State.setCommand, Pair.get_set, e, Ne.symm e] using hv)
  | stopDogs =>
    refine ⟨hs.apart, hs.ordered, fun k x y px py w hv => ?_, hs.waiting⟩
    cases k with
    | a =>
      obtain ⟨w', e⟩ := CommandRecord.stopDog_travel hv
      exact hs.travel .a x y px py w' e
    | b =>
      obtain ⟨w', e⟩ := CommandRecord.stopDog_travel hv
      exact hs.travel .b x y px py w' e
  | arrive k x y px py dog hl =>
    obtain ⟨iv, hr, hx⟩ := hs.travel k x y px py dog hl
    refine ⟨fun a b ha hb => ?_, fun k' v hv => ?_, fun k' x' y' px' py' w hv => ?_, hs.waiting⟩
    · cases k with
      | a =>
        cases ha
        exact (Nat.add_le_add_right hx.2 _).trans (hs.apart iv b hr hb)
      | b =>
        cases hb
        exact (hs.apart a iv ha hr).trans hx.1
    · by_cases e : k' = k
      · subst e
        simp only [State.setReserved, State.setCommand, Pair.get_set, if_true] at hv
        cases hv
        exact le_refl _
      · exact hs.ordered k' v (by simpa [State.setReserved, State.setCommand, Pair.get_set, e, Ne.symm e] using hv)
    · by_cases e : k' = k
      · subst e
        simp [State.setReserved, State.setCommand] at hv
      · have := hs.travel k' x' y' px' py' w (by
          simpa [State.setReserved, State.setCommand, Pair.get_set, e, Ne.symm e] using hv)
        simpa [State.setReserved, State.setCommand, Pair.get_set, e, Ne.symm e] using this
  | shadow c _ h => exact hs.of_same rfl rfl h
  | armed _ c pa pb hst hp si u p k hk =>
    refine ⟨fun a b ha hb => ?_, fun k' v hv => ?_, fun k' x y px py w hv => ?_, fun k' v hv => ?_⟩
    · cases ha
      cases hb
      simp only [positionsFit, Bool.and_eq_true, decide_eq_true_eq] at hp
      exact hp.2
    · cases k' <;> cases hv <;> exact le_refl _
    · cases k' <;> cases hv
    · cases k' <;> cases hv
  | _ => exact hs.of_same rfl rfl rfl

end Sys2Proof.Machine
end

