-- ==== Sys2Proof/Laws/Quiet.lean ====
section
/-! SUPPORT. Events whose follow-up work finds no head to take it: what is put in line is taken and changes nothing. -/

namespace Sys2Proof.Machine

variable (s : State)

/-- A task that asks for a selection. -/
def Task.isSelection : Task → Bool
  | .entered _ | .selectIdle | .selectHead _ => true
  | .legEnd _ _ | .runEntry | .drainTest | .expiry _ | .hostWord _ _ _ => false

theorem State.noTakers.isResting {s : State} (h : s.noTakers) (k : HeadId) : s.isResting k = false := by
  simp [State.isResting, (h k).1, (h k).2.1]

theorem State.noTakers.select {s : State} (h : s.noTakers) (k : HeadId) : s.select k = s := by
  unfold State.select
  rw [h.isResting k]
  rfl

theorem State.noTakers.selectResting {s : State} (h : s.noTakers) : s.selectResting = s := by
  unfold State.selectResting
  rw [h.isResting .a, h.isResting .b]

theorem State.noTakers.preemptOffer {s : State} (h : s.noTakers) (k : HeadId) (i : Site) : s.preemptOffer k i = none := by
  unfold State.preemptOffer
  split
  · rename_i hb _ _
    exact absurd hb (h k).2.2
  · rfl

theorem State.noTakers.requestEntered {s : State} (h : s.noTakers) (i : Site) : s.requestEntered i = s := by
  have hw : ∀ k, s.wouldTake k i = none := fun k => by simp [State.wouldTake, h.isResting k]
  have hs : s.selectEntered i = s := by
    unfold State.selectEntered
    rw [hw .a, hw .b]
    split
    · rename_i e _; cases e
    · exact h.selectResting
  unfold State.requestEntered
  split
  · rfl
  · rw [hs]
    unfold State.considerPreemption
    split
    · rw [h.preemptOffer .a i, h.preemptOffer .b i]
    · rfl

theorem State.noTakers.runTask {s : State} (h : s.noTakers) (t : Task) (ht : t.isSelection = true) : s.runTask t = s := by
  cases t with
  | entered i => exact h.requestEntered i
  | selectIdle => exact h.selectResting
  | selectHead k => exact h.select k
  | _ => cases ht

theorem State.drainTest_of_ne (h : s.control.state ≠ .draining) : s.drainTest = s := by
  unfold State.drainTest
  rw [show s.isIn .draining = false by simpa [State.isIn] using h]
  rfl

theorem State.holdTest_of_ne (h : s.control.state ≠ .holding) : s.holdTest = s := by
  unfold State.holdTest
  rw [show s.isIn .holding = false by simpa [State.isIn] using h]
  rfl

/-- Selections with no head to take them, and tests of R180 outside DRAINING, change nothing. -/
theorem cascade_quiet (n : Nat) (s : State) (h : s.noTakers) (hl : s.trailing = [])
    (ha : ∀ t ∈ s.agenda, t.isSelection = true ∨ (t = .drainTest ∧ s.control.state ≠ .draining))
    (hn : s.agenda.length ≤ n) : cascade n s = { s with agenda := [] } := by
  induction n generalizing s with
  | zero =>
    have e : s.agenda = [] := List.length_eq_zero_iff.1 (Nat.le_zero.1 hn)
    unfold cascade
    rw [← e]
  | succ n ih =>
    unfold cascade
    split
    · rename_i t rest he
      have h' : ({ s with agenda := rest } : State).noTakers := h
      have ht := ha t (by rw [he]; exact List.mem_cons_self)
      have hr : ({ s with agenda := rest } : State).runTask t = { s with agenda := rest } := by
        rcases ht with ht | ⟨rfl, hd⟩
        · exact h'.runTask t ht
        · exact State.drainTest_of_ne _ hd
      rw [hr, ih { s with agenda := rest } h' hl (fun x hx => ha x (by rw [he]; exact List.mem_cons_of_mem _ hx))
        (by rw [he] at hn; simpa using hn)]
    · rename_i t rest _ hc; rw [hl] at hc; cases hc
    · rename_i he _; rw [← he]

theorem finish_quiet (h : s.noTakers) (hl : s.trailing = [])
    (ha : ∀ t ∈ s.agenda, t.isSelection = true ∨ (t = .drainTest ∧ s.control.state ≠ .draining))
    (hn : s.agenda.length ≤ 1000) : s.finish = .next { s with agenda := [] } := by
  unfold State.finish
  rw [cascade_quiet Config.cascadeFuel s h hl ha (hn.trans (by decide))]

end Sys2Proof.Machine
end

