-- ==== Sys2Proof/Tests/Slice0.lean ====
section
/-! SUPPORT. The author's own tests: the smoke test of well-formedness, the worked figures of section 5.7, one or two small
steps of each command, and for each statement with hypotheses a state and operands that meet them. Expected results are those
of the manual's rules and figures. -/

open Sys2Proof Sys2Proof.Machine

set_option Elab.async false

namespace Sys2Proof.Tests

/-! ## Helpers -/

/-- The deck of section 5.7, with one geometry for every station and every socket at one place. -/
def deck : DeckConfig :=
  { Shadow.absent.deck with
    railLength := 1500000
    yTravel := 450000
    nozzlePitch := 30000
    separation := 120000
    pickRetries := 2
    placeRetries := 1
    actionLimit := 300
    preemption := true
    untestedClass := 6
    stations := Vector.replicate 11 ⟨20000, 300000, 15000, 18000, 4, 10⟩
    sockets := Vector.replicate 32 ⟨400000, 300000⟩ }

/-- Copies with the windows and motion profiles of section 5.7; bin 7 clears the count, all others count and ask for a retest
of class 1; class 1 lists OUT2 and OUT6. -/
def copies : Shadow :=
  { deck := deck
    heads := ⟨⟨40000, 1200000, 1, 2, 0, 0⟩, ⟨160000, 1320000, 1, 2, 0, 0⟩⟩
    motion := #v[⟨10, 500, 50000⟩, ⟨1800, 15000, 8000⟩, ⟨1200, 12000, 5000⟩, ⟨1000, 10000, 0⟩]
    profiles := Vector.replicate 4 ⟨40, 25, 60, 30⟩
    sites := Vector.replicate 32 ⟨true, 2, 0, 3, false⟩
    bins := (Vector.replicate 64 ⟨1, true, true, false, 2⟩).set 7 ⟨0, false, false, true, 1⟩
    classes := (Vector.replicate 8 []).set 1 [2, 6] }

/-- A head that holds nothing. -/
def headAt (st : HeadState) (x : Nat) : HeadRecord := { HeadRecord.reset with state := st, x := x, y := 40000 }

/-- An armed machine with empty sites, its heads at X 300,000 and 700,000. -/
def machine (d : DeviceState) (a b : HeadState) : State :=
  { State.reset with
    control := { state := d, drainLatch := false, holdAck := false, arming := none }
    shadow := some copies
    planner := { heads := ⟨headAt a 300000, headAt b 700000⟩, requests := Vector.replicate 32 none, supply := false }
    rail := { reserved := ⟨some ⟨300000, 300000⟩, some ⟨700000, 700000⟩⟩, waiting := ⟨none, none⟩ } }

/-- The machine with both heads under way, so that no head takes up work. -/
def busy (d : DeviceState) : State := machine d .moving .moving

/-- A unit with one attempt at site S4. -/
def unit (st : UnitState) (pl : Place) (d : Disposition) : UnitRecord :=
  { serial := 0x1234#32, station := 1, tray := 7#16, pocket := 127, pickOrder := 9#32, state := st, place := pl,
    attempts := [{ site := 4, bin := 12, duration := 16777216 }], disposition := d,
    reasons := ⟨false, false, false, false, true⟩ }

/-- The machine with unit 5 in socket S3. -/
def loaded (d : DeviceState) (st : SocketState) (ready : Bool) (t : Timer) : State :=
  ((busy d).setSocket 3 { Socket.reset with state := st, ready := ready, unit := some 5, timer := t }).setUnit 5
    (some (unit .inSocket (.site 3) .absent))

/-- The machine with socket S3 in a state without a unit. -/
def vacant (d : DeviceState) (st : SocketState) (ready : Bool) (stop : StopPending) (t : Timer) : State :=
  (busy d).setSocket 3 { Socket.reset with state := st, ready := ready, stop := stop, timer := t }

/-- A leg for nozzle 2 at X 400,000. -/
def leg (k : LegKind) (loc : Location) (u : Option Handle) : Leg :=
  { kind := k, nozzle := some 2, location := loc, x := 400000, y := 300000, unit := u, frame := some 3 }

/-- Head A with one leg and a command. -/
def onLeg (s : State) (l : Leg) (c : CommandRecord) : State :=
  (s.setHead .a { s.head .a with legs := [l], slots := (s.head .a).slots.set 2 l.unit }).setCommand .a c

/-- A travel of head A to X 400,000, Y 300,000. -/
def travelling : CommandRecord := .travel 400000 300000 0 0 (.running 1000)

/-- An input frame's copy, 2 rows of 3, EXPLICIT. -/
def inputCopy : FrameCopy :=
  { station := .input 1, tray := 77#16, rows := 2, columns := 3, explicit := true, baseSerial := 0#32,
    occupancy := 0x3F#128, serials := [10#32, 11#32, 12#32, 13#32, 14#32, 15#32] }

/-- A word of exchange memory set. -/
def withWord (s : State) (a : Nat) (w : Word) : State := { s with mem := writeWord s.mem a w }

/-- A field of the next state; the reset state where there is none. -/
def after (c : Instr) (s : State) : State :=
  match exec c s with
  | .next t => t
  | _ => State.reset

/-! ## Well-formedness: an ill-formed term for each check -/

theorem test_wf_refuses_sites : Instr.wellFormed (.ready 32 true) = false ∧ Instr.wellFormed (.endOfTest 32 0#8) = false ∧
    Instr.wellFormed (.ready 31 true) = true ∧ Instr.wellFormed (.endOfTest 31 0#8) = true := by decide

theorem test_wf_refuses_positions : Instr.wellFormed (.position .a 4294967296 0) = false ∧
    Instr.wellFormed (.position .a 0 4294967296) = false ∧ Instr.wellFormed (.position .b 4294967295 0) = true := by decide

theorem test_wf_refuses_register_writes : Instr.wellFormed (.registerWriteDropped 0#5 0#4 0#32) = false ∧
    Instr.wellFormed (.registerWriteDropped 4#5 0xF#4 0#32) = false ∧
    Instr.wellFormed (.registerWriteDropped 0x10#5 0xF#4 0#32) = false ∧
    Instr.wellFormed (.registerWriteDropped 4#5 1#4 0#32) = true := by decide

theorem test_wf_refuses_memory_writes : Instr.wellFormed (.exchangeMemoryWrite 0x40#16 []) = false ∧
    Instr.wellFormed (.exchangeMemoryWrite 0xFFFF#16 [0#8, 0#8]) = false ∧
    Instr.wellFormed (.exchangeMemoryWrite 0x3FFF#16 [0#8, 0#8]) = false ∧
    Instr.wellFormed (.exchangeMemoryWrite 0x1003#16 [0#8]) = false ∧
    Instr.wellFormed (.exchangeMemoryWrite 0x1004#16 [0#8]) = true := by decide

theorem test_wf_refuses_state_word_writes : Instr.wellFormed (.frameWriteRefused 0 0#4 0#32) = false ∧
    Instr.wellFormed (.slotWriteRefused 0 0#4 1#32) = false ∧ Instr.wellFormed (.slotWriteRefused 0 0xF#4 0#32) = false ∧
    Instr.wellFormed (.slotWriteRefused 0 1#4 0#32) = true := by decide

/-! ## Section 5.7 -/

theorem test_loaded_travel : legTime ⟨1800, 15000, 8000⟩ ⟨1200, 12000, 5000⟩ ⟨120000, 40000⟩ ⟨830000, 100000⟩ = 522445 ∧
    travelLimit 522445 = 607751 := by decide +kernel

theorem test_second_leg : moveTime 60000 1800 15000 = 126492 ∧ travelLimit 134492 = 171304 := by decide +kernel

theorem test_branch_boundary : moveTime 99999 1000 10000 = 200000 ∧ moveTime 100000 1000 10000 = 200000 ∧
    moveTime 100001 1000 10000 = 200001 := by decide +kernel

theorem test_settle_only : legTime ⟨1800, 15000, 8000⟩ ⟨1200, 12000, 5000⟩ ⟨5, 6⟩ ⟨5, 6⟩ = 8000 ∧ travelLimit 8000 = 29000 := by
  decide +kernel

theorem test_longest_move : moveTime 2000000 10 500 = 200020000 := by decide +kernel

theorem test_nozzle_reach : fitTarget copies .a 0 (pocketPosition ⟨20000, 300000, 15000, 18000, 4, 10⟩ 10 12) =
      some ⟨50000, 318000⟩ ∧
    fitTarget copies .b 0 (pocketPosition ⟨20000, 300000, 15000, 18000, 4, 10⟩ 10 12) = none ∧
    fitTarget copies .a 1 (pocketPosition ⟨20000, 300000, 15000, 18000, 4, 10⟩ 10 12) = none := by decide +kernel

/-! ## Small steps of each command -/

theorem test_ready_sets_the_flag : ((after (.ready 3 true) (vacant .run .recovering false .none .stopped)).socket 3).ready = true := by
  decide +kernel

theorem test_ready_out_of_range : exec (.ready 32 true) State.reset = .next State.reset := by rfl

theorem test_end_of_test_bin : (((after (.endOfTest 3 61#8) (loaded .run .testing true .stopped)).unit 5).map
    fun r => (r.attempts.map Attempt.bin, r.disposition)) = some ([12, 63], .cls 1) := by decide +kernel

theorem test_end_of_test_stray : ((after (.endOfTest 3 9#8) (busy .run)).board.sequence, (after (.endOfTest 3 9#8) (busy .run)).regs.attention)
    = (1#16, 2#6) := by decide +kernel

theorem test_contact_expiry : ((after (.contactExpiry 3) (loaded .run .seated true (.running .contact 50 40))).socket 3).timer =
    .running .endOfTest 30000050 30000000 := by decide +kernel

theorem test_eot_watchdog : ((after (.eotWatchdogExpiry 3) (loaded .run .testing true (.running .endOfTest 50 30000000))).socket 3).timer =
    .running .release 25050 25000 := by decide +kernel

theorem test_release_expiry : (after (.releaseExpiry 3) (loaded .run .releasing true (.running .release 50 40))).request 3 =
    some { kind := .swap, raised := 50 } := by decide +kernel

theorem test_recovery_expiry : ((after (.recoveryExpiry 3) (vacant .run .recovering true .lock (.running .recovery 50 40))).socket 3).state =
    .locked := by decide +kernel

theorem test_arrived : (after (.arrived .a) (onLeg (busy .run) (leg .pick (.socket 3) none) travelling)).link.a =
    .act 2 .pick 1 (.running 300000) := by decide +kernel

theorem test_act_done_retry : (after (.actDone .a 2 false) (onLeg (busy .run) (leg .pick (.socket 3) none)
    (.act 2 .pick 2 .stopped))).link.a = .act 2 .pick 3 (.running 300000) := by decide +kernel

theorem test_act_done_wrong_nozzle : (after (.actDone .a 1 true) (onLeg (busy .run) (leg .pick (.socket 3) none)
    (.act 2 .pick 2 .stopped))).link.a = .act 2 .pick 2 .stopped := by decide +kernel

/-- An ARM that waits for the positions. -/
def armWaiting (p : Pair (Option Point)) : State :=
  { State.reset with
    control := { state := .unarmed, drainLatch := false, holdAck := false,
                 arming := some { copies := copies, positions := p, expiry := 300000 } } }

theorem test_position_completes : (after (.position .b 420000 450000) (armWaiting ⟨some ⟨300000, 0⟩, none⟩)).control.state = .held := by
  decide +kernel

theorem test_position_refused : (after (.position .b 419999 450000) (armWaiting ⟨some ⟨300000, 0⟩, none⟩)).regs.result = 29#8 := by
  decide +kernel

theorem test_position_wait_expiry : (after .positionWaitExpiry (armWaiting ⟨none, none⟩)).regs.result = 30#8 := by decide +kernel

theorem test_vacuum_lost : (after (.vacuumLost .a 2) (onLeg ((busy .run).setUnit 6 (some (unit .fresh (.nozzle .a 2) .absent)))
    (leg .place (.socket 3) (some 6)) travelling)).control.state = .holding := by decide +kernel

theorem test_drive_fault : (after (.driveFault (.site 4)) (busy .run)).control.state = .halted ∧
    (after (.driveFault (.site 4)) (busy .run)).outbox = [.stopAll, .stopAll] := by decide +kernel

theorem test_travel_watchdog : ((after (.travelWatchdogExpiry .a) ((busy .run).setCommand .a travelling)).control.state,
    (after (.travelWatchdogExpiry .a) ((busy .run).setCommand .a travelling)).time) = (.halted, 1000) := by decide +kernel

theorem test_action_watchdog : (after (.actionWatchdogExpiry .b) ((busy .holding).setCommand .b (.act 0 .place 1 (.running 7)))).control.state =
    .halted := by decide +kernel

theorem test_arm_refused : ((after (.arm 0#3) State.reset).regs.result, (after (.arm 0#3) State.reset).regs.errorAddress) =
    (16#8, 0x40#16) := by decide +kernel

theorem test_run_in_unarmed : (after (.run 0#3) State.reset).regs.result = 2#8 := by decide +kernel

theorem test_hold_completes : ((after (.hold 0#3) (machine .run .idle .binWait)).control.state,
    (after (.hold 0#3) (machine .run .idle .binWait)).control.holdAck) = (.held, true) := by decide +kernel

theorem test_drain_latches : (after (.drain 0#3) (machine .held .stopped .stopped)).control.drainLatch = true := by decide +kernel

theorem test_reset_keeps_levels : ((after (.reset 5#3) (after (.levels 0xFFFFFFFF#32) (busy .run))).regs.levels,
    (after (.reset 5#3) (busy .run)).regs.threshold) = (0x777777#32, 5#3) := by decide +kernel

theorem test_undefined_request : (after (.undefinedRequest true 0#3) (busy .run)).regs.result = 2#8 := by decide +kernel

theorem test_attention_threshold : (after (.attentionThreshold 6#3) State.reset).regs.threshold = 6#3 := by decide +kernel

theorem test_attention_clear : (after (.attentionClear 0x3E#32) ((busy .run).setFlag .tray)).regs.attention = 1#6 := by decide +kernel

theorem test_levels_raise_the_interrupt : (after (.levels 0x1#32) ((busy .run).setFlag .tray)).outbox = [.stopAll, .interrupt] := by
  decide +kernel

theorem test_status_is_read_only : exec (.registerWriteDropped 8#5 0xF#4 0xFFFFFFFF#32) State.reset = .next State.reset := by rfl

theorem test_power_on : exec .powerOnReset (busy .run) = .next State.reset := by rfl

theorem test_memory_write_crosses_the_identity_block :
    (after (.exchangeMemoryWrite 0x3F#16 [1#8, 2#8]) State.reset).mem = [(0x40, 2#8)] := by decide +kernel

theorem test_memory_write_past_the_end :
    exec (.exchangeMemoryWrite 0xFFFF#16 [1#8, 2#8]) State.reset = .fault (.outsideExchangeMemory 0xFFFF 2) := by rfl

theorem test_posted_in_unarmed : (after (.posted 1) State.reset).mem = [(0x5000, 5#8), (0x500C, 3#8)] := by decide +kernel

theorem test_close_in_held : ((after (.close 3) (withWord ((busy .held).setFrame 3 { state := .active, copy := some inputCopy, marks := [.done], done := 1 })
    0x7000 2#32)).frame 3).state = .spent := by decide +kernel

theorem test_frame_free : (after (.frameFree 3) (withWord (busy .run) 0x7000 5#32)).mem = [] := by decide +kernel

theorem test_frame_write_refused : (after (.frameWriteRefused 3 0xF#4 2#32) (busy .run)).regs.errorAddress = 0x7000#16 := by decide +kernel

theorem test_slot_free : (after (.slotFree 31) (withWord (busy .run) 0x17C0 1#32)).mem = [] := by decide +kernel

theorem test_slot_write_refused : (after (.slotWriteRefused 31 1#4 0#32) (busy .run)).regs.errorAddress = 0x17C0#16 := by decide +kernel

/-! ## Witnesses: a state and operands that meet the hypotheses of each statement, clause by clause -/

theorem busy_takes_nothing (d : DeviceState) : (busy d).noTakers := by
  intro h
  cases h <;> exact ⟨HeadState.noConfusion, HeadState.noConfusion, HeadState.noConfusion⟩

theorem witness_StepRunsFrontCommand : ({ State.reset with pending := [.levels 0#32] } : State).pending = [.levels 0#32] := rfl

theorem witness_TickOnEmptyQueue : State.reset.pending = [] ∧ (vacant .run .recovering false .none
    (.running .recovery 1 1)).idle.pending = [.recoveryExpiry 3] ∧ (vacant .run .recovering false .none
    (.running .recovery 2 1)).idle.pending = [] := by decide +kernel

theorem witness_CommandsGoOn : 0x10000 < (0xFFFF#16).toNat + [0#8, 0#8].length ∧
    (0xFFFF#16).toNat + [0#8].length ≤ 0x10000 := by decide

theorem witness_EventsDiscarded : (busy .run).atRest ∧ (32 ≤ 32 ∨ (busy .run).control.state = .unarmed) ∧
    (∀ (x y : Nat) (px py : Fin 4) (w : Watchdog), (busy .run).link.get .a ≠ .travel x y px py w) ∧
    (∀ (k : Nozzle) (a : Action) (n : Nat) (w : Watchdog), (busy .run).link.get .a ≠ .act k a n w) ∧
    (busy .run).control.arming = none ∧ State.reset.control.state = .unarmed ∧
    (∀ e d : Nat, ((busy .run).socket 31).timer ≠ .running .release e d) := by
  refine ⟨⟨rfl, rfl⟩, .inl (le_refl _), ?_, ?_, rfl, rfl, ?_⟩
  · intro x y px py w h; cases h
  · intro k a n w h; cases h
  · intro e d h; cases h

theorem witness_StartRule :
    (∀ (d : DeviceState) (ready : Bool) (k : Timer), (loaded d .seated ready k).atRest ∧
      (loaded d .seated ready k).control.state = d ∧ ((loaded d .seated ready k).socket 3).state = .seated ∧
      ((loaded d .seated ready k).socket 3).unit = some 5 ∧ ((loaded d .seated ready k).socket 3).ready = ready ∧
      ((loaded d .seated ready k).socket 3).timer = k ∧
      (loaded d .seated ready k).unit 5 = some (unit .inSocket (.site 3) .absent)) :=
  fun _ _ _ => ⟨⟨rfl, rfl⟩, rfl, rfl, rfl, rfl, rfl, rfl⟩

theorem witness_ReadyAndRequests : (vacant .run .recovering false .none .stopped).atRest ∧
    ((vacant .run .recovering false .none .stopped).socket 3).state = .recovering ∧
    ((loaded .run .testing true .stopped).socket 3).state = .testing ∧
    ((vacant .run .empty false .none .stopped).socket 3).state = .empty ∧
    ((vacant .run .empty false .none .stopped).socket 3).bound = none ∧ (vacant .run .empty false .none .stopped).noTakers :=
  ⟨⟨rfl, rfl⟩, rfl, rfl, rfl, rfl, busy_takes_nothing .run⟩

theorem witness_ReadyAndRequests_bound : (((busy .run).setSocket 0 { Socket.reset with bound := some .b }).socket 0).bound ≠ none ∧
    ((busy .run).socket 31).bound = none := by decide +kernel

/-- An EMPTY site whose READY raises a LOAD with an IDLE head there; a request that a dissolution returns; and the expiries. -/
theorem witness_ReadyAndRequests_entered :
    (let s := (machine .run .idle .idle).setSocket 3 { Socket.reset with state := .empty, ready := true };
      (s.socket 3).bound = none ∧ s.request 3 = none ∧ s.wanted 3 = some .load ∧ s.control.state ≠ .unarmed ∧
      (s.socket 3).state = .empty ∧ (s.updateRequests 3).agenda = [.entered 3]) ∧
    (let s := (machine .run .railWait .idle).setSocket 3 { Socket.reset with state := .empty, ready := true, bound := some .a };
      (s.socket 3).bound = some .a ∧ s.wanted 3 = some .load) ∧
    ((loaded .run .releasing true (.running .release 0 25000)).socket 3).timer = .running .release 0 25000 ∧
    ((vacant .run .recovering false .lock (.running .recovery 9 9)).socket 3).timer = .running .recovery 9 9 ∧
    ((vacant .run .recovering false .lock (.running .recovery 9 9)).socket 3).bound = none := by decide +kernel

/-- TESTING with request and retirement out of the way, and the count one below the threshold. -/
def testing (bad : Nat) : State :=
  (loaded .run .testing true (.running .endOfTest 30000000 30000000)).setSocket 3
    { (loaded .run .testing true (.running .endOfTest 30000000 30000000)).socket 3 with bad := bad }

theorem witness_TestClosures : (testing 1).atRest ∧ (testing 1).control.state ≠ .unarmed ∧ ((testing 1).socket 3).state = .testing ∧
    ((testing 1).socket 3).unit = some 5 ∧ (testing 1).unit 5 = some (unit .inSocket (.site 3) .absent) ∧
    (testing 1).request 3 = none ∧ ((testing 1).profile 3).release ≠ 0 ∧
    (60 : Fin 64).val = (if (60#8).toNat ≤ 60 then (60#8).toNat else 63) ∧
    (63 : Fin 64).val = (if (61#8).toNat ≤ 60 then (61#8).toNat else 63) ∧
    ¬(((testing 1).siteCfg 3).threshold ≠ 0 ∧ ((testing 1).siteCfg 3).threshold ≤ 2 ∧
      (((testing 1).socket 3).stop = .none ∨ ((testing 1).socket 3).stop = .disable)) ∧
    ((testing 1).socket 3).timer = .running .endOfTest 30000000 30000000 :=
  ⟨⟨rfl, rfl⟩, by decide, rfl, rfl, rfl, rfl, by decide +kernel, by decide, by decide, by decide +kernel, rfl⟩

/-- The site profiles with a duration of 0. -/
def direct (s : State) : State := { s with shadow := some { copies with profiles := Vector.replicate 4 ⟨0, 0, 0, 30⟩ } }

theorem witness_TestClosures_direct : (direct (testing 1)).atRest ∧ (direct (testing 1)).noTakers ∧
    ((direct (testing 1)).profile 3).release = 0 ∧ ((direct (testing 1)).socket 3).bound = none ∧
    ((direct (testing 1)).socket 3).state = .testing ∧ (direct (testing 1)).request 3 = none ∧
    ((after (.endOfTest 3 7#8) (direct (testing 1))).socket 3).state = .unloadReady :=
  ⟨⟨rfl, rfl⟩, busy_takes_nothing .run, by decide +kernel, rfl, rfl, rfl, by decide +kernel⟩

theorem witness_ClosureRetires : (testing 2).atRest ∧ (testing 2).noTakers ∧ ((testing 2).socket 3).state = .testing ∧
    ((testing 2).profile 3).release ≠ 0 ∧ (testing 2).cfg.bins[(63 : Fin 64)].counts = true ∧
    min 15 (((testing 2).socket 3).bad + 1) = 3 ∧ ((testing 2).siteCfg 3).threshold = 3 ∧
    ((testing 2).socket 3).timer = .running .endOfTest 30000000 30000000 :=
  ⟨⟨rfl, rfl⟩, busy_takes_nothing .run, rfl, by decide +kernel, by decide +kernel, by decide +kernel, by decide +kernel, rfl⟩

theorem witness_LateAndStrayEnds : ∀ m : LateMarker,
    ((busy .run).setTest 3 { isOpen := false, serial := 4#32, late := m }).atRest ∧
    ((busy .run).setTest 3 { isOpen := false, serial := 4#32, late := m }).control.state = .run ∧
    (((busy .run).setTest 3 { isOpen := false, serial := 4#32, late := m }).socket 3).state = .disabled ∧
    (((busy .run).setTest 3 { isOpen := false, serial := 4#32, late := m }).test 3).isOpen = false ∧
    (((busy .run).setTest 3 { isOpen := false, serial := 4#32, late := m }).test 3).late = m :=
  fun _ => ⟨⟨rfl, rfl⟩, rfl, rfl, rfl, rfl⟩

theorem witness_ReleaseAndRecovery_release : (loaded .run .releasing true (.running .release 0 25000)).atRest ∧
    (loaded .run .releasing true (.running .release 0 25000)).noTakers ∧
    ((loaded .run .releasing true (.running .release 0 25000)).socket 3).state = .releasing ∧
    ((loaded .run .releasing true (.running .release 0 25000)).socket 3).timer = .running .release 0 25000 ∧
    ((loaded .run .releasing true (.running .release 0 25000)).socket 3).bound = none ∧
    (loaded .run .releasing true (.running .release 0 25000)).request 3 = none :=
  ⟨⟨rfl, rfl⟩, busy_takes_nothing .run, rfl, rfl, rfl, rfl⟩

/-- A recovering socket bound to head A, which waits there when `waits`. -/
def recoveringBound (waits : Bool) : State :=
  let s := onLeg (machine .run (if waits then .socketWait else .moving) .moving) (leg .place (.socket 3) (some 6)) .empty
  s.setSocket 3 { Socket.reset with state := .recovering, bound := some .a, timer := .running .recovery 9 9 }

theorem witness_ReleaseAndRecovery :
    (∀ (ready : Bool) (stop : StopPending),
      let s := vacant .run .recovering ready stop (.running .recovery 9 9)
      s.atRest ∧ (s.socket 3).state = .recovering ∧ (s.socket 3).timer = .running .recovery 9 9 ∧ (s.socket 3).stop = stop ∧
      (s.socket 3).bound = none ∧ s.request 3 = none ∧ s.noTakers) ∧
    (∀ waits : Bool,
      let s := recoveringBound waits
      s.atRest ∧ (s.socket 3).state = .recovering ∧ (s.socket 3).timer = .running .recovery 9 9 ∧ (s.socket 3).stop = .none ∧
      (s.socket 3).bound = some .a ∧ (s.head .a).state = (if waits then .socketWait else .moving) ∧
      (s.head .a).legs = [leg .place (.socket 3) (some 6)] ∧ s.control.state = .run) :=
  ⟨fun _ _ => ⟨⟨rfl, rfl⟩, rfl, rfl, rfl, rfl, rfl, busy_takes_nothing .run⟩,
    fun _ => ⟨⟨rfl, rfl⟩, rfl, rfl, rfl, rfl, rfl, rfl, rfl⟩⟩

/-- The copies with site S3's record at a value. -/
def withSite (s : State) (c : SiteConfig) : State :=
  { s with shadow := some { copies with sites := copies.sites.set 3 c } }

theorem witness_SiteEditTable :
    ((withSite (vacant .held .empty true .disable .stopped) ⟨true, 2, 0, 3, true⟩).siteCfg 3).lockout = true ∧
    ((vacant .held .empty true .disable .stopped).socket 3).latch = false ∧
    ((vacant .held .jammed true .none .stopped).socket 3).state = .jammed ∧
    ((withSite (vacant .held .retired true .none .stopped) ⟨false, 2, 0, 3, false⟩).siteCfg 3).enable = false ∧
    ((vacant .held .retired true .none .stopped).siteCfg 3).enable = true ∧
    ((vacant .held .disabled true .none .stopped).socket 3).state = .disabled ∧
    (((busy .held).setSocket 3 { Socket.reset with latch := true, state := .locked }).socket 3).latch = true := by decide +kernel

/-- Socket S3 jammed with unit 5 in it. -/
def jammed : State := loaded .held .jammed true .stopped

theorem witness_SiteEditTable_jam : (jammed.socket 3).state = .jammed ∧ (jammed.socket 3).unit = some 5 ∧
    jammed.unit 5 = some (unit .inSocket (.site 3) .absent) ∧ (jammed.profile 3).recovery ≠ 0 ∧
    ((direct jammed).profile 3).recovery = 0 ∧ ((vacant .held .jammed true .none .stopped).socket 3).unit = none := by
  decide +kernel

/-- Unit 6 on nozzle 2 of head A. -/
def held (d : DeviceState) (a : HeadState) (c : CommandRecord) : State :=
  (onLeg (machine d a .moving) (leg .place (.socket 3) (some 6)) c).setUnit 6 (some (unit .fresh (.nozzle .a 2) .absent))

/-- Head A places unit 6 at the EMPTY socket S3. -/
def placing : State := (held .run .acting (.act 2 .place 1 .stopped)).setSocket 3 { Socket.reset with state := .empty }

/-- A SWAP of head B at socket S3, which holds unit 5 tested. -/
def swapping : State :=
  let s := loaded .run .unloadReady true .stopped
  let j : Job := { kind := .swap, site := some 3, level := 2, raised := 0, pickNozzle := some 0, placeNozzle := some 1, taken := [],
                   legsDone := 0 }
  (s.setSocket 3 { s.socket 3 with bound := some .b }).setHead .b { s.head .b with job := some j }

theorem witness_SocketReports :
    (placing.request 3 = none ∧ (placing.socket 3).state = .empty ∧ placing.slot .a 2 = some 6 ∧
      placing.unit 6 = some (unit .fresh (.nozzle .a 2) .absent) ∧ (placing.profile 3).contact ≠ 0) ∧
    (∀ x ∈ (unit .retest (.nozzle .a 2) .absent).attempts, x.site ≠ 3) ∧
    (swapping.request 3 = none ∧ (swapping.socket 3).state = .unloadReady ∧ (swapping.socket 3).unit = some 5 ∧
      swapping.slot .a 2 = none ∧ swapping.unit 5 = some (unit .inSocket (.site 3) .absent) ∧
      (swapping.profile 3).recovery ≠ 0 ∧ (swapping.socket 3).bound = some .b ∧
      (swapping.head .b).job.map Job.kind = some .swap ∧ ((loaded .run .unloadReady true .stopped).socket 3).bound = none) ∧
    ((swapping.socket 3).stop = .none ∧ (swapping.siteCfg 3).level = 2 ∧
      ((withSite swapping ⟨true, 0, 0, 3, false⟩).siteCfg 3).level = 0) := by decide +kernel

theorem witness_SocketReports_direct : ((direct placing).profile 3).contact = 0 ∧ ((direct swapping).profile 3).recovery = 0 ∧
    ((direct placing).socket 3).state = .empty ∧ ((direct swapping).socket 3).state = .unloadReady ∧
    ((testing 1).socket 3).timer = .running .endOfTest 30000000 30000000 := by decide +kernel

/-- The machine with an ACTIVE input frame 3. -/
def fed : State :=
  let s := (busy .run).setFrame 3 { state := .active, copy := some inputCopy, marks := List.replicate 6 .isOpen, done := 0 }
  { s with trays := { s.trays with inputs := [3] } }

theorem witness_InputReports : (leg .pick (.input 1 5) none).location = .input 1 5 ∧ (leg .pick (.input 1 5) none).frame = some 3 ∧
    (fed.frame 3).copy = some inputCopy ∧ inputCopy.station = .input 1 ∧ 5 < 128 ∧ 5 < (fed.frame 3).marks.length ∧
    fed.control.state ≠ .draining ∧ fed.slot .a 2 = none ∧ fed.unit 0 = none ∧ (∀ v : Handle, v < 0 → fed.unit v ≠ none) ∧
    (fed.frame 3).state = .active ∧ ((fed.setFrame 3 { fed.frame 3 with state := .close }).frame 3).state = .close ∧
    (∀ j : Nat, j < 6 → j = 5 ∨ ([.done, .done, .done, .done, .done, .isOpen] : List PocketMark).getD j .isOpen = .done) := by
  decide +kernel

/-- In DRAINING no site of the machine is usable, or one is; no leg of head A places unit 0. In HALTED the frame is ACTIVE. -/
theorem witness_InputReports_states :
    (∀ x : Site, ((busy .draining).socket x).state = .disabled) ∧ (busy .draining).control.state = .draining ∧
    (∀ x ∈ ((busy .draining).head .a).legs, x.kind = .place → x.unit ≠ some 0) ∧
    (((busy .draining).setSocket 9 { Socket.reset with state := .empty }).socket 9).state = .empty ∧
    ((busy .draining).siteCfg 9).level ≠ 0 ∧
    (∀ d : DeviceState, ({ fed with control := { fed.control with state := d } } : State).control.state = d ∧
      (({ fed with control := { fed.control with state := d } } : State).frame 3).state = .active) := by
  refine ⟨by decide +kernel, rfl, by decide +kernel, by decide +kernel, by decide +kernel, fun _ => ⟨rfl, rfl⟩⟩

/-- Frame 3 ACTIVE at OUT6, the first two pockets occupied by the host; unit 6 on a nozzle of head A, TESTED for class 1. -/
def drawn (a : HeadState) (k : Nozzle) : State :=
  let s := (machine .run a .moving).setFrame 3
    { state := .active, copy := some { inputCopy with station := .output 6, occupancy := 3#128 }
      marks := List.replicate 6 .isOpen, done := 0 }
  (s.setHead .a { s.head .a with slots := (s.head .a).slots.set k (some 6) }).setUnit 6
    (some (unit .tested (.nozzle .a k) (.cls 1)))

theorem witness_OutputReports : (leg .place (.output 6 5) (some 6)).location = .output 6 5 ∧
    (leg .place (.output 6 5) (some 6)).frame = some 3 ∧ (drawn .acting 2).slot .a 2 = some 6 ∧
    (drawn .acting 2).unit 6 = some (unit .tested (.nozzle .a 2) (.cls 1)) ∧
    (unit .tested (.nozzle .a 2) (.cls 1)).attempts.length ≤ 3 ∧ (unit .tested (.nozzle .a 2) (.cls 1)).pocket < 128 ∧ 5 < 128 ∧
    ((drawn .acting 2).frame 3).copy.map FrameCopy.station = some (.output 6) ∧ 5 < ((drawn .acting 2).frame 3).marks.length ∧
    ((drawn .acting 2).frame 3).state = .active := by decide +kernel

/-- Unit 5 in strip pocket 15. -/
def stripped : State :=
  let s := (busy .run).setUnit 5 (some (unit .queued (.strip 15) (.retestWanted 1)))
  (s.setStrip 15 { content := some 5, reservation := none, blocked := false }).setRetest [{ unit := 5, pocket := 15, claim := none }]

/-- Unit 6 on nozzle 2 of head A, in a state. -/
def carried (d : DeviceState) (st : UnitState) : State :=
  (held d .acting .empty).setUnit 6 (some (unit st (.nozzle .a 2) (.retestWanted 7)))

theorem witness_StripReports :
    ((carried .run .tested).slot .a 2 = some 6 ∧
      (carried .run .tested).unit 6 = some (unit .tested (.nozzle .a 2) (.retestWanted 7)) ∧
      ((carried .run .tested).stripPocket 15).content = none) ∧
    (stripped.slot .a 2 = none ∧ (stripped.stripPocket 15).content = some 5 ∧
      stripped.unit 5 = some (unit .queued (.strip 15) (.retestWanted 1)) ∧
      (unit .queued (.strip 15) (.retestWanted 1)).place = .strip 15) ∧
    ((∀ i : Site, (stripped.socket i).state = .disabled) ∧
      ((stripped.setSocket 9 { Socket.reset with state := .empty }).socket 9).state = .empty ∧ (stripped.siteCfg 9).level ≠ 0 ∧
      ∀ x ∈ (unit .queued (.strip 15) (.retestWanted 1)).attempts, x.site ≠ 9) ∧
    (∀ (d : DeviceState) (st : UnitState), (carried d st).control.state = d ∧ ((carried d st).head .a).job = none ∧
      (carried d st).slot .a 2 = some 6 ∧ (carried d st).unit 6 = some (unit st (.nozzle .a 2) (.retestWanted 7))) ∧
    ∀ (g : HeadId) (j : Nozzle), (carried .draining .fresh).slot g j = some 6 → g = .a := by
  refine ⟨by decide +kernel, by decide +kernel, by decide +kernel, fun _ _ => ⟨rfl, rfl, rfl, rfl⟩, fun g => ?_⟩
  cases g
  · exact fun _ _ => rfl
  · intro j h
    have none : ∀ j : Nozzle, (carried .draining .fresh).slot .b j = none := by decide +kernel
    rw [none j] at h
    cases h

/-- Head A on its way to a leg. -/
def underway (l : Leg) (d : DeviceState) : State := onLeg (busy d) l travelling

theorem witness_ArrivalTable :
    (∀ (l : Leg) (d : DeviceState), (underway l d).atRest ∧ (underway l d).link.get .a = travelling ∧
      (underway l d).control.state = d ∧ (underway l d).rail.waiting.get (HeadId.other .a) = none ∧
      ((underway l d).head .a).state = .moving ∧ ((underway l d).head .a).legs = [l] ∧ (underway l d).slot .a 2 = l.unit ∧
      ((underway l d).socket 3).state = .disabled) ∧
    (leg .pick (.socket 3) none).nozzle = some 2 ∧ (∀ i : Site, (leg .place (.output 7 9) (some 6)).location = .socket i →
      ((underway (leg .place (.output 7 9) (some 6)) .holding).socket i).state = .empty) ∧
    (underway (leg .place (.socket 3) (some 6)) .draining).working = true :=
  ⟨fun _ _ => ⟨⟨rfl, rfl⟩, rfl, rfl, rfl, rfl, rfl, rfl, rfl⟩, rfl, (fun _ h => by cases h), rfl⟩

theorem witness_ArrivalTable_gone : (underway (leg .place (.strip 0) (some 7)) .holding).slot .a 3 ≠ some 7 ∧
    (underway { leg .travel (.clearance 5) none with nozzle := none } .holding).control.state = .holding ∧
    (underway { leg .travel (.clearance 5) none with nozzle := none } .run).working = true := by decide +kernel

/-- A place leg in HOLDING whose socket is not EMPTY; and the other head's leg waiting, which the arrival lets through. -/
theorem witness_ArrivalTable_full : (underway (leg .place (.socket 3) (some 6)) .holding).control.state = .holding ∧
    ((underway (leg .place (.socket 3) (some 6)) .holding).socket 3).state ≠ .empty ∧
    (let w : WaitingLeg := { x := 600000, y := 5, swept := ⟨600000, 700000⟩, level := 2 }
      let s := (underway (leg .pick (.input 0 0) none) .run).setWaiting .b (some w)
      s.rail.waiting.get .b = some w ∧ (after (.arrived .a) s).rail.waiting.get .b = none) := by decide +kernel

/-- Head A in an attempt. -/
def acting (l : Leg) (a : Action) (n : Nat) (d : DeviceState) : State :=
  onLeg (machine d .acting .moving) l (.act 2 a n (.running 300000))

theorem witness_ActionJudged :
    (∀ (l : Leg) (a : Action) (n : Nat) (d : DeviceState), (acting l a n d).atRest ∧
      (acting l a n d).link.get .a = .act 2 a n (.running 300000) ∧ (acting l a n d).control.state = d ∧
      ((acting l a n d).head .a).legs = [l]) ∧
    2 ≤ (acting (leg .pick (.socket 3) none) .pick 2 .run).deck.pickRetries ∧
    (acting (leg .place (.socket 3) (some 6)) .place 2 .run).deck.placeRetries < 2 :=
  ⟨fun _ _ _ _ => ⟨⟨rfl, rfl⟩, rfl, rfl, rfl⟩, by decide, by decide⟩

/-- Frame 3 ACTIVE at IN1 with pocket 2 the one occupied, and the heads idle. -/
def supplied (d : DeviceState) : State :=
  let s := (machine d .idle .idle).setFrame 3
    { state := .active, copy := some { inputCopy with occupancy := 4#128 }, marks := List.replicate 6 .isOpen, done := 0 }
  { s with trays := { s.trays with inputs := [3] } }

/-- Head A at the end of a leg of a job. -/
def legOver (k : JobKind) (legs : List Leg) (d : DeviceState) : State :=
  let j : Job := { kind := k, site := none, level := 2, raised := 0, pickNozzle := none, placeNozzle := none, taken := [],
                   legsDone := 0 }
  let s := { machine d .acting .stopped with trays := (supplied d).trays }
  s.setHead .a { s.head .a with job := some j, legs := legs }

theorem witness_ActionJudged_legEnded :
    (∀ (k : JobKind) (l : List Leg) (d : DeviceState), (((legOver k l d).head .a).job.map Job.kind = some k) ∧
      ((legOver k l d).head .a).legs = l ∧ (legOver k l d).control.state = d) ∧
    ((legOver .feed [] .run).slot .a 0 = none ∧ (legOver .feed [] .run).slot .a 1 = none ∧
      ((legOver .feed [] .run).evaluateSupply.feedLeg .a).map (fun x => x.2.location) = some (.input 1 2) ∧
      ((legOver .feed [] .draining).evaluateSupply.feedLeg .a).isNone = true) ∧
    ((legOver .sort [] .holding).head .b).state = .stopped ∧ (legOver .sort [] .holding).link = ⟨.empty, .empty⟩ ∧
    ((busy .run).head .a).job = none := by
  refine ⟨fun _ _ _ => ⟨rfl, rfl, rfl⟩, ?_⟩
  decide +kernel

/-- Head A places unit 6 at socket S3, the device halted. -/
def haltedPlace : State :=
  let s := onLeg (machine .halted .stopped .stopped) (leg .place (.socket 3) (some 6)) (.act 2 .place 1 .stopped)
  (s.setSocket 3 { Socket.reset with state := .empty }).setUnit 6 (some (unit .retest (.nozzle .a 2) .absent))

theorem witness_HaltedReports : haltedPlace.atRest ∧ haltedPlace.control.state = .halted ∧
    haltedPlace.link.get .a = .act 2 .place 1 .stopped ∧ (haltedPlace.head .a).legs = [leg .place (.socket 3) (some 6)] ∧
    (haltedPlace.socket 3).state = .empty ∧ haltedPlace.unit 6 = some (unit .retest (.nozzle .a 2) .absent) ∧
    haltedPlace.request 3 = none ∧ (haltedPlace.profile 3).contact ≠ 0 ∧
    (haltedPlace.setCommand .a travelling).link.get .a = travelling :=
  ⟨⟨rfl, rfl⟩, rfl, rfl, rfl, rfl, rfl, rfl, by decide +kernel, rfl⟩

theorem witness_VacuumLost :
    (∀ (d : DeviceState) (st : HeadState) (c : CommandRecord), (held d st c).atRest ∧ (held d st c).control.state = d ∧
      ((held d st c).head .a).state = st ∧ (held d st c).link.get .a = c ∧ (held d st c).slot .a 2 = some 6 ∧
      (held d st c).slot .a 3 = none ∧ (held d st c).unit 6 = some (unit .fresh (.nozzle .a 2) .absent)) ∧
    (∀ (a : Action) (n : Nat) (w : Watchdog), travelling ≠ .act 2 a n w) :=
  ⟨fun _ _ _ => ⟨⟨rfl, rfl⟩, rfl, rfl, rfl, rfl, rfl, rfl⟩, fun _ _ _ h => by cases h⟩

theorem witness_VacuumLost_place : (unit .fresh (.nozzle .a 2) .absent).place = .nozzle .a 2 ∧ HeadState.acting ≠ .idle :=
  ⟨rfl, by decide⟩

theorem witness_HaltRule : (busy .held).atRest ∧ (busy .held).control.state ≠ .unarmed ∧ (busy .held).control.state ≠ .halted ∧
    ((busy .run).setCommand .a travelling).link.get .a = .travel 400000 300000 0 0 (.running 1000) ∧
    ((busy .holding).setCommand .b (.act 3 .pick 1 (.running 0))).link.get .b = .act 3 .pick 1 (.running 0) ∧
    (busy .halted).control.state = .halted :=
  ⟨⟨rfl, rfl⟩, by decide, by decide, rfl, rfl, rfl⟩

/-- Head A bound to a LOAD at socket S3, whose request the halt returns; no command is outstanding. -/
theorem witness_HaltRule_returned :
    (let s := machine .run .railWait .moving
      let j : Job := { kind := .load, site := some 3, level := 2, raised := 9, pickNozzle := none, placeNozzle := some 2,
                       taken := [], legsDone := 0 }
      let t := (s.setHead .a { s.head .a with job := some j }).setSocket 3
        { Socket.reset with state := .empty, ready := true, bound := some .a }
      t.link.get .a = .empty ∧ (t.head .a).job = some j ∧ j.site = some 3 ∧ (t.socket 3).bound = some .a ∧
      (after (.driveFault (.site 4)) t).request 3 = some { kind := .load, raised := 9 }) := by decide +kernel

theorem witness_RefusedRequests : (busy .halted).atRest ∧ (busy .halted).control.arming = none ∧
    HostRequest.run.accepted (busy .halted).control.state = false ∧ (armWaiting ⟨none, none⟩).control.state = .unarmed ∧
    (armWaiting ⟨none, none⟩).control.arming ≠ none := by
  refine ⟨⟨rfl, rfl⟩, rfl, rfl, rfl, ?_⟩
  intro h; cases h

/-- A word of a record put into memory. -/
def put (m : List Host.Cell) (l : List (Nat × Word)) : List Host.Cell := l.foldl (fun m e => writeWord m e.1 e.2) m

/-- Configuration records that pass every check, fields at bounds of their ranges: rail length, Y travel and separation at
their least, the windows as wide as they go, tray sizes at their largest and at 1, one class that lists four stations. -/
def records : List Host.Cell :=
  put [] [(0x40, 100000#32), (0x44, 10000#32), (0x48, 60000#32), (0x4C, 20000#32), (0x240, 0#32), (0x244, 80000#32),
    (0x250, 20000#32), (0x254, 100000#32), (0x68, 0x1008#32), (0x7C, 0x101#32), (0x90, 0x101#32), (0xA4, 0x101#32),
    (0xB8, 0x101#32), (0xCC, 0x101#32), (0xE0, 0x101#32), (0xF4, 0x101#32), (0x108, 0x101#32), (0x11C, 0x101#32),
    (0x608, 0x04030204#32), (0x60C, 0x05#32)]

theorem witness_ArmRequest : (∀ c ∈ armChecks records, c.pass = true) ∧
    ({ State.reset with mem := records } : State).atRest ∧
    ({ State.reset with mem := records } : State).control.state = .unarmed ∧
    ({ State.reset with mem := records } : State).control.arming = none := by
  refine ⟨?_, ⟨rfl, rfl⟩, rfl, rfl⟩
  decide +kernel

theorem witness_ArmRequest_refused : State.reset.atRest ∧ State.reset.control.state = .unarmed ∧ State.reset.control.arming = none ∧
    (∃ after, armChecks State.reset.mem = [] ++ { code := 16, offset := 0x40, pass := false } :: after) ∧
    ∀ f : FrameId, readWord State.reset.mem (0x4000 + f.val * 0x1000) ≠ 1#32 := by
  refine ⟨⟨rfl, rfl⟩, rfl, rfl, ⟨(armChecks []).tail, ?_⟩, ?_⟩
  · decide +kernel
  · decide +kernel

/-- Frame 11 waits in POSTED. -/
theorem witness_ArmRequest_posted : (withWord State.reset 0xF000 1#32).atRest ∧
    readWord (withWord State.reset 0xF000 1#32).mem (0x4000 + (11 : FrameId).val * 0x1000) = 1#32 ∧
    readWord (after (.arm 0#3) (withWord State.reset 0xF000 1#32)).mem 0xF000 = 5#32 := by
  refine ⟨⟨rfl, rfl⟩, ?_⟩
  decide +kernel

theorem witness_AcceptedDeckLegal : ∀ c ∈ armChecks records, c.pass = true := witness_ArmRequest.1

/-- Records with one field wrong: the class index of the last bin map entry, and a class that lists a station of another. -/
theorem witness_CheckTable :
    (armChecks (writeByte records 0x5FC 8#8)).find? (fun c => !c.pass) = some { code := 26, offset := 0x5FC, pass := false } ∧
    (runChecks (writeWord records 0x638 0x0501#32) { deck with railLength := 100000, separation := 20000 }).find?
      (fun c => !c.pass) = some { code := 28, offset := 0x639, pass := false } := by decide +kernel

theorem witness_ArmCompletes : (armWaiting ⟨some ⟨300000, 0⟩, none⟩).atRest ∧
    (armWaiting ⟨some ⟨300000, 0⟩, none⟩).control.state = .unarmed ∧
    (∃ w, (armWaiting ⟨some ⟨300000, 0⟩, none⟩).control.arming = some w ∧ w.positions.get .b = none ∧
      w.positions.get (HeadId.other .b) = some ⟨300000, 0⟩ ∧ 300000 ≤ w.copies.deck.railLength ∧ 450000 ≤ w.copies.deck.yTravel ∧
      300000 + w.copies.deck.separation ≤ 420000) ∧
    ∀ f : FrameId, readWord (armWaiting ⟨some ⟨300000, 0⟩, none⟩).mem (0x4000 + f.val * 0x1000) = 0#32 := by
  refine ⟨⟨rfl, rfl⟩, rfl, ⟨_, rfl, rfl, rfl, ?_⟩, ?_⟩
  · decide
  · decide +kernel

theorem witness_ArmCompletes_stale : (readWord (withWord (armWaiting ⟨some ⟨300000, 0⟩, none⟩) 0xF000 4#32).mem
      (0x4000 + (11 : FrameId).val * 0x1000) = 4#32) ∧
    ∀ f : FrameId, readWord (withWord (armWaiting ⟨some ⟨300000, 0⟩, none⟩) 0xF000 4#32).mem (0x4000 + f.val * 0x1000) ≠ 1#32 := by
  decide +kernel

/-- Frame 11, filled in for IN1, waits in POSTED for the ARM, with frame 10 for the same station. -/
def armingPosted : State :=
  { armWaiting ⟨some ⟨300000, 0⟩, none⟩ with
    mem := put [] [(0xE000, 1#32), (0xE004, 0x000A0401#32), (0xE024, 1#32), (0xF000, 1#32), (0xF004, 0x000A0401#32)] }

theorem witness_ArmCompletes_posted : armingPosted.atRest ∧
    readWord armingPosted.mem (0x4000 + (10 : FrameId).val * 0x1000) = 1#32 ∧
    readWord armingPosted.mem (0x4000 + (11 : FrameId).val * 0x1000) = 1#32 ∧
    readWord (after (.position .b 420000 450000) armingPosted).mem 0xE000 = 2#32 ∧
    readWord (after (.position .b 420000 450000) armingPosted).mem 0xF000 = 5#32 ∧
    readWord (after (.position .b 420000 450000) armingPosted).mem 0xF00C = 6#32 ∧
    readWord (after .positionWaitExpiry armingPosted).mem 0xE00C = 3#32 := by
  refine ⟨⟨rfl, rfl⟩, ?_⟩
  decide +kernel

theorem witness_ArmWaitEnds : ∀ p : Pair (Option Point), (armWaiting p).atRest ∧ (armWaiting p).control.state = .unarmed ∧
    (∃ w, (armWaiting p).control.arming = some w ∧ w.positions = p ∧ ¬300000 + w.copies.deck.separation ≤ 419999) ∧
    ∀ f : FrameId, readWord (armWaiting p).mem (0x4000 + f.val * 0x1000) ≠ 1#32 := by
  refine fun p => ⟨⟨rfl, rfl⟩, rfl, ⟨_, rfl, rfl, by change ¬300000 + 120000 ≤ 419999; decide⟩, ?_⟩
  change ∀ f : FrameId, readWord [] (0x4000 + f.val * 0x1000) ≠ 1#32
  decide +kernel

theorem witness_RunRequest : (machine .held .stopped .stopped).atRest ∧
    (∃ after, runChecks (machine .held .stopped .stopped).mem (machine .held .stopped .stopped).deck =
      [{ code := 24, offset := 0x244, pass := true }, { code := 24, offset := 0x244, pass := true },
       { code := 24, offset := 0x254, pass := true }, { code := 24, offset := 0x254, pass := true }] ++
        { code := 24, offset := 0x250, pass := false } :: after) ∧
    (∀ c ∈ runChecks records { deck with separation := 20000 }, c.pass = true) ∧
    (machine .drained .idle .idle).control.state = .drained := by
  refine ⟨⟨rfl, rfl⟩, ⟨(runChecks [] deck).drop 5, ?_⟩, ?_, rfl⟩
  · decide +kernel
  · decide +kernel

/-- Records that pass the checks of RUN, site S3 with a profile whose recovery delay is not 0 and its JAM_CLEAR written. -/
def clearing (drain : Bool) : State :=
  let s := { jammed with shadow := some { copies with deck := { deck with separation := 20000 } } }
  { s with
    mem := put records [(0x338, 2#32), (0x300 + 16 * 3, 1#32)]
    control := { s.control with drainLatch := drain }
    planner := { s.planner with heads := ⟨headAt .stopped 300000, headAt .stopped 700000⟩ } }

theorem witness_RunRequest_edits : ∀ d : Bool, (clearing d).atRest ∧ (clearing d).control.state = .held ∧
    (∀ c ∈ runChecks (clearing d).mem (clearing d).deck, c.pass = true) ∧
    readWord (clearing d).mem (0x300 + 16 * (3 : Site).val + 8) = 2#32 ∧ ((clearing d).head .a).state = .stopped ∧
    (∀ (j : Site) (u : Handle), ((clearing d).socket j).unit = some u → j = 3 ∧ u = 5) ∧
    (clearing d).unit 5 = some (unit .inSocket (.site 3) .absent) ∧
    (((clearing d).profile 3).recovery ≠ 0 ∧ ((clearing d).siteCfg 3).profile = 0 ∧
      (readByte (clearing d).mem 0x332).toNat = 0) := by
  refine fun d => ⟨⟨rfl, rfl⟩, rfl, ?_⟩
  revert d
  decide +kernel

theorem witness_RunRequest_drained : (machine .drained .idle .idle).atRest ∧ (machine .drained .idle .idle).control.state = .drained ∧
    ∀ h : HeadId, ((machine .drained .idle .idle).head h).state = .idle ∧ ((machine .drained .idle .idle).head h).legs = [] ∧
      (machine .drained .idle .idle).rail.waiting.get h = none := ⟨⟨rfl, rfl⟩, rfl, fun h => by cases h <;> exact ⟨rfl, rfl, rfl⟩⟩

theorem witness_HoldRequest : (machine .draining .idle .binWait).atRest ∧ (machine .draining .idle .binWait).control.state = .draining ∧
    (machine .run .idle .binWait).control.state = .run ∧
    (∀ h : HeadId, ((machine .run .idle .binWait).head h).state = .idle ∨ ((machine .run .idle .binWait).head h).state = .binWait) ∧
    (machine .run .idle .binWait).link = ⟨.empty, .empty⟩ := by
  refine ⟨⟨rfl, rfl⟩, rfl, rfl, fun h => ?_, rfl⟩
  cases h
  · exact .inl rfl
  · exact .inr rfl

theorem witness_HoldRequest_test : (machine .holding .stopped .stopped).control.state = .holding ∧
    (∀ h : HeadId, ((machine .holding .stopped .stopped).head h).state = .stopped) ∧
    (machine .holding .stopped .stopped).link = ⟨.empty, .empty⟩ := ⟨rfl, fun h => by cases h <;> rfl, rfl⟩

theorem witness_DrainRequest : ∀ d : DeviceState, (busy d).atRest ∧ (busy d).control.state = d := fun _ => ⟨⟨rfl, rfl⟩, rfl⟩

theorem witness_DrainRequest_complete : (machine .run .idle .idle).control.state = .run ∧
    (∀ u : Handle, (machine .run .idle .idle).unit u = none) ∧ ((machine .run .idle .idle).head .a).state = .idle ∧
    ((machine .run .idle .idle).head .b).state = .idle ∧ (∀ i : Site, (machine .run .idle .idle).request i = none) ∧
    (machine .run .idle .idle).units.retest = [] ∧ (machine .run .idle .idle).rail.waiting = ⟨none, none⟩ := by decide +kernel

theorem witness_DrainRequest_test : (machine .draining .idle .idle).control.state = .draining ∧
    (∀ u : Handle, (machine .draining .idle .idle).unit u = none) ∧
    ∀ h : HeadId, ((machine .draining .idle .idle).head h).state = .idle :=
  ⟨rfl, by decide +kernel, fun h => by cases h <;> rfl⟩

theorem witness_DrainRequest_flight : (busy .run).LinkRight ∧ ((busy .run).head .a).state.inFlight = true ∧
    (busy .run).control.state = .run := by
  refine ⟨⟨fun h e => ?_, fun h e => ?_, fun e => ?_⟩, rfl, rfl⟩
  · cases h <;> exact absurd rfl e
  · cases h <;> exact absurd rfl e
  · cases e

theorem witness_AttentionRule : topClass { Registers.reset with attention := 0x21#6, levels := 0x700007#32 } = some .tray ∧
    topClass { Registers.reset with attention := 0x3F#6 } = none := by decide +kernel

theorem witness_AttentionRule_writes : (busy .run).atRest ∧ ((0xE#4 : BitVec 4) ≠ 0xF#4 ∨ False) ∧
    ((0x08#5 : BitVec 5).toNat / 4 ≠ 1 ∧ (0x08#5 : BitVec 5).toNat / 4 ≠ 3 ∧ (0x08#5 : BitVec 5).toNat / 4 ≠ 4) := by
  exact ⟨⟨rfl, rfl⟩, .inl (by decide), by decide⟩

theorem witness_ExchangeWriteStores : (busy .run).atRest ∧ Memory.wf (busy .run).mem = true ∧
    Instr.wellFormed (.exchangeMemoryWrite 0x3F#16 [1#8, 2#8]) = true ∧
    Instr.wellFormed (.exchangeMemoryWrite 0x3FFF#16 [1#8]) = true ∧
    Instr.wellFormed (.exchangeMemoryWrite 0xFFFF#16 [1#8]) = true := ⟨⟨rfl, rfl⟩, rfl, by decide, by decide, by decide⟩

/-- Writes of 2 bytes that end in a state word, and of a word that begins where the last frame's, the last slot's range allows. -/
theorem witness_ExchangeWriteStores_watched :
    (0x7000 + 4 ≤ 0x6FFF + 0x1000 ∧ 0x6FFF < 0x7000 + 4 ∧ 0x7000 < 0x6FFF + 2 ∧ 0x6FFF + 2 ≤ 0x7000 + 0x1000 ∧
      ¬0x6FFF ≤ 0x7000 - 4) ∧
    (0x7000 + 4 ≤ 0x6004 + 0x1000 ∧ 0x6004 ≤ 0x7000 ∧ 0x7000 + 4 ≤ 0x6004 + 0x1FFC ∧ 0x6004 + 0x1FFC ≤ 0x7000 + 0x1000) ∧
    (0x17C0 + 4 ≤ 0x1784 + 0x40 ∧ 0x1784 ≤ 0x17C0 ∧ 0x17C0 + 4 ≤ 0x1784 + 0x7C ∧ 0x1784 + 0x7C ≤ 0x17C0 + 0x40) ∧
    readWord (withWord (busy .run) 0x7000 2#32).mem 0x7000 = 2#32 := by decide +kernel

/-- A POSTED over frame 11 with the word above it, and a CLOSE over frame 3 with the word below it. -/
theorem witness_ExchangeWriteStores_taken :
    (0xF000 + 4 ≤ (0xF000#16).toNat + 0x1000 ∧ (0xF000#16).toNat + 8 ≤ 0xF000 + 0x1000 ∧
      readWord (busy .run).mem (0x4000 + (11 : FrameId).val * 0x1000) = 0#32 ∧
      (0#8 ++ 0#8 ++ 0#8 ++ 1#8 : Word) = 1#32) ∧
    (0x7000 + 4 ≤ (0x6FFC#16).toNat + 0x1000 ∧ readWord (withWord (busy .run) 0x7000 2#32).mem 0x7000 = 2#32 ∧
      (0#8 ++ 0#8 ++ 0#8 ++ 3#8 : Word) = 3#32) ∧
    (∀ h : HeadId, ((busy .run).head h).legs.length ≤ 4) ∧
    readWord (after (.exchangeMemoryWrite 0xF000#16 [1#8, 0#8, 0#8, 0#8, 8#8, 1#8, 2#8, 0#8]) (busy .run)).mem 0xF000 = 5#32 ∧
    readWord (after (.exchangeMemoryWrite 0xF000#16 [1#8, 0#8, 0#8, 0#8, 8#8, 1#8, 2#8, 0#8]) (busy .run)).mem 0xF004 =
      0x00020108#32 := by
  refine ⟨by decide +kernel, by decide +kernel, fun h => by cases h <;> decide, ?_⟩
  decide +kernel

/-- Frame 11 filled in by the host for IN1: 4 rows of 10, the last pocket alone occupied. -/
def offeredTray : State :=
  { busy .run with mem := put [] [(0xF004, 0x000A0401#32), (0xF024, 0x80#32)] }

theorem witness_PostedActivates : offeredTray.atRest ∧ offeredTray.noTakers ∧ offeredTray.control.arming = none ∧
    offeredTray.control.state = .run ∧ readWord offeredTray.mem 0xF000 = 0#32 ∧ (readByte offeredTray.mem 0xF004).toNat = 1 ∧
    (readByte offeredTray.mem 0xF005).toNat = 4 ∧ (readByte offeredTray.mem 0xF006).toNat = 10 ∧
    offeredTray.deck.stations[1].maxRows = 4 ∧ offeredTray.deck.stations[1].maxColumns = 10 ∧
    (∀ k : FrameId, (offeredTray.frame k).state = .free) ∧
    (readByte offeredTray.mem (0xF020 + 39 / 8)).getLsbD (39 % 8) = true := by
  refine ⟨⟨rfl, rfl⟩, busy_takes_nothing .run, rfl, rfl, ?_⟩
  decide +kernel

/-- Frame 11 filled in by the host for OUT6, 1 row of 2, with the pockets given occupied. -/
def offeredOutput (occupied : Word) : State := { busy .run with mem := put [] [(0xF004, 0x00020108#32), (0xF020, occupied)] }

theorem witness_PostedActivates_output :
    ((offeredOutput 1#32).control.arming = none ∧ (6 : Fin 8).val + 2 = (8 : Fin 10).val ∧
      (6 : Fin 8) ∈ (offeredOutput 1#32).cfg.classes[(1 : Fin 8)] ∧ readWord (offeredOutput 1#32).mem 0xF000 = 0#32 ∧
      (readByte (offeredOutput 1#32).mem 0xF004).toNat = 8 ∧ (readByte (offeredOutput 1#32).mem 0xF005).toNat = 1 ∧
      (readByte (offeredOutput 1#32).mem 0xF006).toNat = 2 ∧ (offeredOutput 1#32).deck.stations[8].maxRows = 4) ∧
    (readByte (offeredOutput 1#32).mem (0xF020 + 1 / 8)).getLsbD (1 % 8) = false ∧
    ∀ i : Nat, i < 2 → (readByte (offeredOutput 3#32).mem (0xF020 + i / 8)).getLsbD (i % 8) = true := by decide +kernel

/-- A pocket of frame 3 reserved for head A: ACTIVE at OUT6, which class 1 lists, at OUT0, which none lists, and in CLOSE. -/
theorem witness_PostedActivates_room :
    (let s (st : FrameState) (n : Fin 8) := (busy .run).setFrame 3
        { state := st, copy := some { inputCopy with station := .output n }, marks := [.reserved .a, .isOpen], done := 0 };
      (∀ st : FrameState, ∀ n : Fin 8, ((s st n).frame 3).marks.getD 0 .isOpen = .reserved .a ∧ ((s st n).frame 3).state = st) ∧
      (6 : Fin 8) ∈ (s .active 6).cfg.classes[(1 : Fin 8)] ∧ (∀ k : Fin 8, (0 : Fin 8) ∉ (s .active 0).cfg.classes[k]) ∧
      ((s .active 6).releasePocket 3 0 .a).agenda = [.selectIdle] ∧ ((s .active 0).releasePocket 3 0 .a).agenda = [] ∧
      (((s .close 6).releasePocket 3 0 .a).frame 3).state = .spent) := by
  refine ⟨fun _ _ => ⟨rfl, rfl⟩, ?_⟩
  decide +kernel

theorem witness_PostedNotTaken : (armWaiting ⟨none, none⟩).atRest ∧
    readWord (armWaiting ⟨none, none⟩).mem (0x4000 + (11 : FrameId).val * 0x1000) = 0#32 ∧
    (armWaiting ⟨none, none⟩).control.arming.isSome = true ∧ State.reset.control.arming = none ∧ State.reset.atRest ∧
    readWord State.reset.mem (0x4000 + (11 : FrameId).val * 0x1000) = 0#32 ∧ (busy .halted).control.state = .halted := by
  refine ⟨⟨rfl, rfl⟩, ?_, rfl, rfl, ⟨rfl, rfl⟩, ?_, rfl⟩
  · decide +kernel
  · decide +kernel

/-- Frame 3 ACTIVE, its state word with it. -/
def activeTray (d : DeviceState) : State :=
  withWord ((busy d).setFrame 3 { state := .active, copy := some inputCopy, marks := [.done, .isOpen], done := 1 }) 0x7000 2#32

/-- The checks 2 to 6 of R129: a frame of station 10, one of 0 rows, one at the station of an ACTIVE frame, one at an output
station of no class, and one with no pocket occupied. -/
theorem witness_PostedNotTaken_checks :
    (readByte (withWord (busy .run) 0xF004 0x0001010A#32).mem 0xF004).toNat = 10 ∧
    (readByte (withWord (busy .run) 0xF004 0x00010001#32).mem 0xF005).toNat = 0 ∧
    (((activeTray .run).frame 3).state = .active ∧ ((activeTray .run).frame 3).copy.map (fun c => c.station.code) = some 1 ∧
      readWord (activeTray .run).mem 0xF000 = 0#32) ∧
    (∀ c : Fin 8, (0 : Fin 8) ∉ (busy .run).cfg.classes[c]) ∧
    (∀ k : FrameId, ((busy .run).frame k).state = .free) ∧
    ∀ i : Nat, i < 1 → (readByte (withWord (busy .run) 0xF004 0x00010101#32).mem (0xF020 + i / 8)).getLsbD (i % 8) = false := by
  decide +kernel

theorem witness_CloseSpends : ∀ d : DeviceState, (activeTray d).atRest ∧ (activeTray d).control.state = d ∧
    readWord (activeTray d).mem (0x4000 + (3 : FrameId).val * 0x1000) = 2#32 ∧ ((activeTray d).frame 3).state = .active ∧
    (∀ (i : Nat) (h : HeadId), ((activeTray d).frame 3).marks[i]? ≠ some (.reserved h)) ∧ (activeTray d).noTakers ∧
    (∀ h : HeadId, ((activeTray d).head h).state ≠ .railWait) := by
  intro d
  refine ⟨⟨rfl, rfl⟩, rfl, ?_, rfl, ?_, busy_takes_nothing d, ?_⟩
  · change readWord (writeWord [] 0x7000 2#32) 0x7000 = 2#32
    decide +kernel
  · intro i h
    change ([.done, .isOpen] : List PocketMark)[i]? ≠ some (.reserved h)
    rcases i with _ | _ | i <;> simp
  · intro h
    cases h <;> exact HeadState.noConfusion

/-- Frame 3 ACTIVE, a leg of head A for its pocket 1 waiting in RUN, and a notice waiting. -/
def legForTray (marks : List PocketMark) : State :=
  let s := onLeg (machine .run .railWait .moving) (leg .pick (.input 1 1) none) .empty
  withWord ({ s with board := { queue := [{ kind := .strayEnd }], sequence := 0#16 } }.setFrame 3
    { state := .active, copy := some inputCopy, marks := marks, done := 1 }) 0x7000 2#32

theorem witness_CloseSpends_dissolved : ∀ marks : List PocketMark, (legForTray marks).atRest ∧
    readWord (legForTray marks).mem (0x4000 + (3 : FrameId).val * 0x1000) = 2#32 ∧
    (legForTray marks).control.state = .run ∧ ((legForTray marks).frame 3).state = .active ∧
    ((legForTray marks).head .a).state = .railWait ∧ ((legForTray marks).head .a).legs = [leg .pick (.input 1 1) none] ∧
    (leg .pick (.input 1 1) none).frame = some 3 ∧ ((legForTray marks).head .b).state = .moving ∧
    (legForTray marks).board.queue ≠ [] ∧ (legForTray marks).rail.waiting.get .b = none ∧
    ((legForTray marks).frame 3).marks = marks := by
  refine fun marks => ⟨⟨rfl, rfl⟩, ?_, rfl, rfl, rfl, rfl, rfl, rfl, (fun h => by cases h), rfl, rfl⟩
  change readWord (writeWord [] 0x7000 2#32) 0x7000 = 2#32
  decide +kernel

theorem witness_FrameWordJudged_freed : (withWord (busy .run) 0xF000 4#32).atRest ∧
    readWord (withWord (busy .run) 0xF000 4#32).mem (0x4000 + (11 : FrameId).val * 0x1000) = 4#32 ∧
    readWord (withWord (busy .run) 0x4000 5#32).mem (0x4000 + (0 : FrameId).val * 0x1000) = 5#32 := by
  refine ⟨⟨rfl, rfl⟩, ?_⟩
  decide +kernel

theorem witness_FrameWordJudged : (busy .run).atRest ∧ ((1#4 : BitVec 4) ≠ 0#4 ∧ (1#4 : BitVec 4) ≠ 0xF#4) ∧
    (2#32 ≠ readWord (busy .run).mem (0x4000 + (0 : FrameId).val * 0x1000)) ∧
    readWord (withWord (busy .run) 0x4000 5#32).mem (0x4000 + (0 : FrameId).val * 0x1000) = 5#32 ∧
    readWord (withWord (busy .run) 0x4000 2#32).mem (0x4000 + (0 : FrameId).val * 0x1000) = 2#32 := by
  refine ⟨⟨rfl, rfl⟩, ?_⟩
  decide +kernel

/-- Slot 31 FILLED and a queue of notices. -/
def filledSlot (q : List Notice) : State :=
  { withWord (busy .run) 0x17C0 1#32 with board := { queue := q, sequence := 65535#16 } }

theorem witness_SlotWordJudged_freed : ∀ q : List Notice, (filledSlot q).atRest ∧
    readWord (filledSlot q).mem (0x1000 + (31 : SlotId).val * 0x40) = 1#32 ∧ (filledSlot q).board.queue = q ∧
    (filledSlot q).noTakers ∧ (filledSlot q).control.state ≠ .draining := by
  refine fun q => ⟨⟨rfl, rfl⟩, ?_, rfl, busy_takes_nothing .run, DeviceState.noConfusion⟩
  change readWord (writeWord [] 0x17C0 1#32) 0x17C0 = 1#32
  decide +kernel

/-- The queue emptied in DRAINING: the drain completes, no unit being in use and both heads IDLE. -/
theorem witness_SlotWordJudged_drained :
    (let s := { machine .draining .idle .idle with
                mem := (filledSlot []).mem, board := (filledSlot [{ kind := .strayEnd }]).board };
      s.atRest ∧ s.board.queue = [{ kind := .strayEnd }]) := ⟨⟨rfl, rfl⟩, rfl⟩

theorem witness_SlotWordJudged : (filledSlot []).atRest ∧
    readWord (filledSlot []).mem (0x1000 + (31 : SlotId).val * 0x40) = 1#32 ∧
    readWord (filledSlot []).mem (0x1000 + (0 : SlotId).val * 0x40) = 0#32 ∧
    readWord (withWord (busy .run) 0x17C0 2#32).mem (0x1000 + (31 : SlotId).val * 0x40) = 2#32 ∧
    (2#32 : Word) ≠ 1#32 ∧ (0xE#4 : BitVec 4) ≠ 0xF#4 := by
  refine ⟨⟨rfl, rfl⟩, ?_⟩
  decide +kernel

theorem witness_NoticeArrives : (filledSlot []).board.queue = [] ∧
    readWord (filledSlot []).mem (0x1000 + (0 : SlotId).val * 0x40) = 0#32 ∧ (∀ j : SlotId, j < 0 → False) ∧
    (filledSlot (List.replicate 7 { kind := .strayEnd })).board.queue.length < 8 ∧
    (filledSlot (List.replicate 7 { kind := .strayEnd } ++ [{ kind := .lateEnd }])).board.queue =
      List.replicate 7 { kind := .strayEnd } ++ [{ kind := .lateEnd }] := by
  refine ⟨rfl, by decide +kernel, fun j h => absurd h (by simp), by decide, rfl⟩

theorem witness_MoveTimeRule : 0 < 1000 ∧ 0 < 10000 ∧ 1000 * 1000 * 1000 ≤ 100000 * 10000 ∧ 99999 * 10000 < 1000 * 1000 * 1000 ∧
    99999 ≤ 100000 ∧ 100000 ≤ 2000000 := by decide

theorem witness_MoveTimeExact : 2000000 ≤ 2000000 ∧ 10 ≤ 10 ∧ 10 ≤ 4000 ∧ 500 ≤ 500 ∧ 500 ≤ 60000 := by decide

theorem witness_ClearancePoint : (busy .run).cfg.heads.a.windowLow ≤ (busy .run).cfg.heads.a.windowHigh ∧
    (busy .run).cfg.heads.b.windowLow ≤ (busy .run).cfg.heads.b.windowHigh ∧
    (busy .run).cfg.heads.a.windowLow + (busy .run).deck.separation ≤ (busy .run).cfg.heads.b.windowLow ∧
    (busy .run).cfg.heads.a.windowHigh + (busy .run).deck.separation ≤ (busy .run).cfg.heads.b.windowHigh ∧
    (⟨300000, 1200000⟩ : Interval).hi ≤ (busy .run).cfg.heads.a.windowHigh ∧
    (busy .run).cfg.heads.b.windowLow ≤ (⟨160000, 700000⟩ : Interval).lo := by decide +kernel

theorem witness_NozzleChoice : (fitTarget copies .a 0 ⟨40000, 450000⟩ = some ⟨40000, 450000⟩) ∧
    (busy .run).slot .a 0 = none ∧ (busy .run).pickNozzle .a ⟨40000, 450000⟩ = some (0, ⟨40000, 450000⟩) ∧
    (busy .run).pickNozzle .b ⟨40000, 450000⟩ = none ∧
    ((held .run .idle .empty).placeChoice .a 3).map PlaceChoice.nozzle = some 2 ∧ (busy .run).placeChoice .a 3 = none := by
  decide +kernel

/-- A state with a request pending at socket S3. -/
def asked (s : State) (k : RequestKind) : State := s.setRequest 3 (some { kind := k, raised := 7 })

theorem witness_BestRequest : (asked (held .run .idle .empty) .load).request 3 = some { kind := .load, raised := 7 } ∧
    ((asked (held .run .idle .empty) .load).offerFor .a 3).map (fun o => o.plan.kind) = some .load ∧
    ((asked (held .run .idle .empty) .swap).offerFor .a 3).map (fun o => o.plan.kind) = some .swap ∧
    ((asked (busy .draining) .swap).offerFor .a 3).map (fun o => o.plan.kind) = some .unload ∧
    ((asked (busy .run) .unload).offerFor .a 3).map (fun o => o.plan.level) = some 2 ∧
    (((((held .run .idle .empty).setRequest 0 (some { kind := .load, raised := 7 })).setRequest 31
      (some { kind := .load, raised := 7 })).bestOffer .a).map Offer.site = some 0) ∧ (busy .run).bestOffer .a = none := by
  decide +kernel

theorem witness_AllocationRule : (drawn .idle 2).allocate 1 = some (3, 2) ∧ (busy .run).allocate 1 = none := by decide +kernel

theorem witness_FeedSources : (busy .run).trays.inputs = [] ∧ (supplied .run).trays.inputs = 3 :: [] ∧
    ((supplied .run).frame 3).copy = some { inputCopy with occupancy := 4#128 } ∧ ((supplied .run).frame 3).state = .active ∧
    (supplied .run).offered = some (3, 2) ∧ (supplied .run).units.retest = [] ∧ (supplied .run).control.state = .run ∧
    (supplied .run).pickNozzle .a (framePosition (supplied .run).cfg { inputCopy with occupancy := 4#128 } 2) =
      some (0, ⟨50000, 300000⟩) ∧
    (supplied .run).pickNozzle .b (framePosition (supplied .run).cfg { inputCopy with occupancy := 4#128 } 2) = none ∧
    (supplied .draining).control.state ≠ .run ∧
    ((supplied .run).setFrame 3 { (supplied .run).frame 3 with state := .close }).offered = none ∧
    stripped.units.retest = [] ++ { unit := 5, pocket := 15, claim := none } :: [] ∧
    stripped.pickNozzle .a (stripPosition stripped.cfg 15) = some (0, ⟨125000, 318000⟩) := by decide +kernel

theorem witness_JobSelection :
    (((busy .run).head .a).state = .moving ∧ ((machine .holding .binWait .idle).head .a).state = .binWait ∧
      (machine .holding .binWait .idle).control.state = .holding ∧ (machine .held .idle .idle).control.state = .held ∧
      (legForTray []).board.queue ≠ []) ∧
    ((drawn .idle 0).slot .a 0 = some 6 ∧ (drawn .idle 0).unit 6 = some (unit .tested (.nozzle .a 0) (.cls 1)) ∧
      (drawn .idle 0).decide (unit .tested (.nozzle .a 0) (.cls 1)) = some (.pocket 3 2) ∧
      (drawn .idle 0).destinationTarget .a 0 (.pocket 3 2) = some ⟨50000, 300000⟩ ∧ (drawn .idle 0).sortsFirst .a = true ∧
      (drawn .idle 2).sortsFirst .a = false ∧ (drawn .idle 2).bestOffer .a = none ∧ (drawn .idle 2).feedLeg .a = none) ∧
    (((asked (held .run .idle .empty) .load).bestOffer .a).map Offer.site = some 3 ∧
      (asked (held .run .idle .empty) .load).sortsFirst .a = false) ∧
    ((supplied .run).slot .a 0 = none ∧ (supplied .run).slot .a 1 = none ∧
      ((supplied .run).evaluateSupply.feedLeg .a).map (fun x => x.2.location) = some (.input 1 2) ∧
      (supplied .run).planner.supply = false ∧ (supplied .run).evaluateSupply.planner.supply = true) := by decide +kernel

theorem witness_SortChoice :
    ((drawn .idle 0).decide (unit .tested (.nozzle .a 0) (.cls 1)) = some (.pocket 3 2) ∧
      (drawn .idle 0).allocate 1 = some (3, 2) ∧ (drawn .idle 0).nearest .a [] [] = some (0, 6) ∧
      (drawn .idle 0).nearest .a [6] [] = none ∧ (drawn .idle 2).destinationTarget .a 2 (.pocket 3 2) = none ∧
      ((drawn .idle 0).commit .a 0 6).2.map Leg.location = some (.output 6 2) ∧
      ((drawn .idle 0).sortLeg .a [] 4 []).2.map (fun x => x.2.location) = some (.output 6 2) ∧
      ((drawn .idle 2).sortLeg .a [] 4 []).2 = none) ∧
    ((busy .run).stripPocket 0 = { content := none, reservation := none, blocked := false } ∧
      (∀ q : Fin 16, ¬q < 0) ∧ ((busy .run).setSocket 9 { Socket.reset with state := .empty }).siteRoom
        (unit .tested (.nozzle .a 2) (.retestWanted 7)) = true ∧
      (busy .run).siteRoom (unit .tested (.nozzle .a 2) (.retestWanted 7)) = false) := by decide +kernel

/-- Head A or B bound to a LOAD of level 1 at socket S9, with unit 6 on nozzle 2 of head A. -/
def boundLow (a b : HeadState) : State :=
  let s := (asked (held .run a .empty) .load)
  let j : Job := { kind := .load, site := some 9, level := 1, raised := 0, pickNozzle := none, placeNozzle := some 2, taken := [],
                   legsDone := 0 }
  (s.setHead .a { s.head .a with job := some j }).setHead .b
    { s.head .a with state := b, job := some j, slots := (s.head .b).slots.set 0 (some 7) } |>.setUnit 7
      (some (unit .fresh (.nozzle .b 0) .absent))

theorem witness_Preemption : (boundLow .bound .bound).request 3 ≠ none ∧ (boundLow .bound .bound).control.state = .run ∧
    (boundLow .bound .bound).board.queue = [] ∧ (boundLow .bound .bound).deck.preemption = true ∧
    (((boundLow .bound .bound).offerFor .a 3).map fun o => o.plan.level) = some 2 ∧
    (((boundLow .bound .bound).offerFor .b 3).map fun o => o.plan.level) = some 2 ∧
    (((boundLow .idle .idle).bestOffer .a).map Offer.site = some 3) ∧ (((boundLow .idle .idle).bestOffer .b).map Offer.site = some 3) ∧
    (boundLow .idle .idle).sortsFirst .a = false ∧ (boundLow .idle .idle).sortsFirst .b = false ∧
    (boundLow .bound .moving).preemptOffer .b 3 = none := by decide +kernel

theorem witness_Preemption_resting : (∀ h : HeadId, ((machine .run .idle .binWait).head h).state = .idle ∨
      ((machine .run .idle .binWait).head h).state = .binWait) ∧
    ((machine .run .idle .moving).head .a).state = .idle ∧
    ¬(((machine .run .idle .moving).head (HeadId.other .a)).state = .idle ∨
      ((machine .run .idle .moving).head (HeadId.other .a)).state = .binWait) :=
  ⟨fun h => by cases h; exacts [.inl rfl, .inr rfl], rfl, by decide⟩

/-- Head A with a leg to X 400,000 in RUN; head B in a state, with the waiting leg given. -/
def crossing (b : HeadState) (w : Option WaitingLeg) : State :=
  (onLeg (machine .run .railWait b) (leg .pick (.socket 3) none) .empty).setWaiting .b w

theorem witness_RailLegs : ((crossing .idle none).head .a).legs = [leg .pick (.socket 3) none] ∧
    (crossing .idle none).control.state = .run ∧ (crossing .idle none).rail.reserved.get .b = some ⟨700000, 700000⟩ ∧
    400000 + (crossing .idle none).deck.separation ≤ 700000 ∧ ¬700000 - 100000 + (crossing .idle none).deck.separation ≤ 700000 ∧
    ((crossing .idle none).head .b).state = .idle ∧
    (crossing .bound (some ⟨350000, 40000, ⟨350000, 700000⟩, 0⟩)).rail.waiting.get .b ≠ none ∧
    ((machine .run .idle .moving).clearance .a ⟨350000, 700000⟩ = 230000) ∧
    230000 + (machine .run .idle .moving).deck.separation ≤ 700000 ∧ (350000 : Nat) < 300000 + 120000 := by decide +kernel

theorem witness_MemoryFormKept : Memory.wf (offeredTray).mem = true ∧ Memory.wf [] = true := by decide +kernel

theorem busy_railSafe (d : DeviceState) : (busy d).RailSafe := by
  refine ⟨fun a b ha hb => ?_, fun h iv hi => ?_, fun h x y px py w hc => ?_, fun h w hw => ?_⟩
  · cases ha
    cases hb
    change 300000 + 120000 ≤ 700000
    decide
  · cases h <;> cases hi <;> exact le_refl _
  · cases h <;> cases hc
  · cases h <;> cases hw

theorem witness_HeadsKeptApart : (busy .run).RailSafe ∧ ∃ t, step (busy .run) = .next t := ⟨busy_railSafe .run, _, rfl⟩

theorem witness_AttentionAndBoardKept : (busy .run).attentionTrue ∧ ∃ t, step (busy .run) = .next t := ⟨⟨rfl, rfl⟩, _, rfl⟩

theorem witness_AttentionAndBoardKept_queue : (filledSlot (List.replicate 8 { kind := .strayEnd })).board.queue.length ≤ 8 ∧
    ∃ t, step (filledSlot (List.replicate 8 { kind := .strayEnd })) = .next t := ⟨by decide, _, rfl⟩

theorem witness_ActivationListKept_distinct : fed.trays.distinct ∧ ∃ t, step fed = .next t := by
  have h : ∀ f : FrameId, f ≠ 3 → fed.trays.frames[f].inUse = false := by decide +kernel
  refine ⟨fun f g hfg hf hg => ?_, _, rfl⟩
  by_cases e : f = 3
  · rw [h g (fun e' => hfg (e.trans e'.symm))] at hg
    cases hg
  · rw [h f e] at hf
    cases hf

theorem witness_ActivationListKept : (withWord fed 0x7000 2#32).atRest ∧ (withWord fed 0x7000 2#32).ListRight ∧
    ∃ t, exec (.close 3) (withWord fed 0x7000 2#32) = .next t := by
  refine ⟨⟨rfl, rfl⟩, ⟨witness_ActivationListKept_distinct.1, by decide +kernel, ?_, ?_, fun h => by cases h⟩, _, rfl⟩
  · have h : ∀ f ∈ (withWord fed 0x7000 2#32).trays.inputs, ((withWord fed 0x7000 2#32).frame f).inUse = true ∧
        ((withWord fed 0x7000 2#32).frame f).isAt (.input 1) = true := by decide +kernel
    exact fun f hf => ⟨(h f hf).1, 1, (h f hf).2⟩
  · intro _
    decide +kernel

theorem witness_DeviceStateTable : resets (.reset 0#3) = true ∧ resets (.driveFault (.head .a)) = false ∧ (busy .run).atRest ∧
    (∃ t, exec (.reset 0#3) (busy .run) = .next t) ∧ ∃ t, exec (.driveFault (.head .a)) (busy .halted) = .next t :=
  ⟨rfl, rfl, ⟨rfl, rfl⟩, ⟨_, rfl⟩, ⟨_, rfl⟩⟩

theorem witness_HostBytesKept : (busy .run).atRest ∧ deviceOwned 0x40 = false ∧ deviceOwned 0x1000 = true ∧
    ∃ t, exec (.slotFree 0) (busy .run) = .next t := ⟨⟨rfl, rfl⟩, by decide, by decide, _, rfl⟩

theorem witness_FlagsAndLevelsStand : resets (.slotFree 0) = false ∧ ∃ t, exec (.slotFree 0) (busy .run) = .next t := ⟨rfl, _, rfl⟩

theorem witness_RestKept : (swapping.setRequest 3 none).atRest ∧ (swapping.head .a).legs.length ≤ 4 ∧
    (swapping.head .b).legs.length ≤ 4 ∧ ∃ t, exec (.hold 0#3) swapping = .next t := ⟨⟨rfl, rfl⟩, by decide, by decide, _, rfl⟩

theorem stripped_units_right : stripped.UnitsRight := by
  have slots : ∀ k : Nozzle, stripped.slot .a k = none ∧ stripped.slot .b k = none := by decide +kernel
  have sockets : ∀ i : Site, (stripped.socket i).unit = none ∧ (stripped.socket i).state = .disabled := by decide +kernel
  have strip : ∀ p : Fin 16, (stripped.stripPocket p).content = if p = 15 then some 5 else none := by decide +kernel
  have units : ∀ u : Handle, stripped.unit u = if u = 5 then some (unit .queued (.strip 15) (.retestWanted 1)) else none := by
    decide +kernel
  have five : ∀ (u : Handle) (r : UnitRecord), stripped.unit u = some r → u = 5 ∧ r = unit .queued (.strip 15) (.retestWanted 1) := by
    intro u r h
    rw [units u] at h
    split at h
    · exact ⟨‹_›, (Option.some.inj h).symm⟩
    · cases h
  refine ⟨fun p u => ⟨fun h => ?_, ?_⟩, ?_, ?_, ?_, ?_, ?_, by decide +kernel, by decide +kernel, ?_, by decide +kernel, ?_⟩
  · cases p with
    | nozzle g k => cases g <;> simp [State.holder, slots k] at h
    | site i => simp [State.holder, sockets i] at h
    | strip q =>
      simp only [State.holder, strip q] at h
      split at h
      · cases h
        subst_vars
        exact ⟨_, units 5, rfl⟩
      · cases h
  · rintro ⟨r, h, rfl⟩
    obtain ⟨rfl, rfl⟩ := five u r h
    exact strip 15
  · intro u r h
    obtain ⟨rfl, rfl⟩ := five u r h
    rfl
  · intro u r h
    obtain ⟨rfl, rfl⟩ := five u r h
    exact ⟨by decide, by decide, (fun h => by cases h), fun _ => ⟨1, rfl⟩, fun _ _ => by decide⟩
  · intro i h
    simp [sockets i] at h
  · exact fun i _ => (sockets i).1
  · intro i u r h
    simp [sockets i] at h
  · intro p h
    rw [strip p] at h
    split at h
    · exact ⟨_, List.mem_singleton.mpr rfl, ‹p = 15›.symm⟩
    · exact absurd rfl h
  · intro w h
    cases h

theorem witness_UnitsKept : stripped.UnitsRight ∧ ∃ t, step stripped = .next t := ⟨stripped_units_right, _, rfl⟩

theorem witness_RequestsAndHeldKept : swapping.oneRequest ∧ (∃ t, step swapping = .next t) ∧
    (machine .held .stopped .stopped).atRest ∧ (machine .held .stopped .stopped).LinkRight ∧
    (machine .held .stopped .stopped).control.state = .held ∧
    ∃ t, exec (.ready 3 true) (machine .held .stopped .stopped) = .next t := by
  refine ⟨?_, ⟨_, rfl⟩, ⟨rfl, rfl⟩, ⟨fun h e => ?_, fun h e => ?_, fun _ h => ?_⟩, rfl, _, rfl⟩
  · have none : ∀ i : Site, swapping.request i = none := by decide +kernel
    exact fun i _ => none i
  · cases h <;> exact absurd rfl e
  · cases h <;> exact absurd rfl e
  · cases h <;> rfl

theorem witness_RequestsAndHeldKept_drained : (machine .drained .idle .idle).atRest ∧ (machine .drained .idle .idle).LinkRight ∧
    (machine .drained .idle .idle).RestingRight ∧ (machine .drained .idle .idle).control.state = .drained ∧
    ∃ t, exec (.ready 3 true) (machine .drained .idle .idle) = .next t := by
  refine ⟨⟨rfl, rfl⟩, ⟨fun h e => ?_, fun h e => ?_, fun e => ?_⟩, ⟨fun _ h _ => ?_, fun _ h => ?_⟩, rfl, _, rfl⟩
  · cases h <;> exact absurd rfl e
  · cases h <;> exact absurd rfl e
  · cases e
  · cases h <;> rfl
  · cases h <;> rfl

end Sys2Proof.Tests
end

section
/-! What one operation leaves standing, said as three relations between the state before and after it: `Still` (no head, no
command and no leg moves), `Aside` (a planner's or arbiter's side work: claims, marks, requests given back) and `Chooses`
(whatever the planner and the arbiter decide). One lemma for each operation that is not a head's own move; law 9 (R19, R56)
goes with each of them. -/

set_option Elab.async false

namespace Sys2Proof.Machine

/-! ## Leg ends in line -/

/-- The task is the end of a head's leg (R64). -/
def Task.isLegEnd : Task → Bool
  | .legEnd _ _ => true
  | .entered _ | .selectIdle | .selectHead _ | .runEntry | .drainTest | .expiry _ | .hostWord _ _ _ => false

/-- The ends of legs that wait in line. -/
def State.legEnds (s : State) : List Task := (s.agenda ++ s.trailing).filter Task.isLegEnd

theorem Task.isLegEnd_of_isSelection {x : Task} (h : x.isSelection = true) : x.isLegEnd = false := by
  cases x with
  | entered _ | selectIdle | selectHead _ => rfl
  | legEnd _ _ | runEntry | drainTest | expiry _ | hostWord _ _ _ => cases h

@[simp] theorem State.legEnds_push (s : State) (x : Task) (h : x.isLegEnd = false) : (s.push x).legEnds = s.legEnds := by
  simp [State.legEnds, State.push, h]

@[simp] theorem State.legEnds_pushTrailing (s : State) (x : Task) (h : x.isLegEnd = false) :
    (s.pushTrailing x).legEnds = s.legEnds := by
  simp [State.legEnds, State.pushTrailing, h]

/-- Both lines of work the same, the leg ends in them are. -/
theorem State.legEnds_congr {s t : State} (ha : t.agenda = s.agenda) (ht : t.trailing = s.trailing) : t.legEnds = s.legEnds := by
  rw [State.legEnds, State.legEnds, ha, ht]

/-! ## Law 9 from one site -/

/-- Requests and bound heads the same, law 9 goes on. -/
theorem State.oneRequest_of_same {s t : State} (hs : ∀ i : Site, (t.socket i).bound = (s.socket i).bound)
    (hr : t.planner.requests = s.planner.requests) (h : s.oneRequest) : t.oneRequest := by
  intro i hb
  have hi := h i (by rwa [← hs i])
  simpa only [State.request, hr] using hi

/-- One site's bound head and request changed so that one of them is none, law 9 goes on. -/
theorem State.oneRequest_of_one {s t : State} (i : Site) (hs : ∀ j : Site, i ≠ j → (t.socket j).bound = (s.socket j).bound)
    (hr : ∀ j : Site, i ≠ j → t.request j = s.request j) (hi : (t.socket i).bound = none ∨ t.request i = none)
    (h : s.oneRequest) : t.oneRequest := by
  intro j hb
  by_cases e : i = j
  · subst e
    exact hi.resolve_left hb
  · rw [hr j e]
    exact h j (by rwa [← hs j e])

/-! ## Nothing of the heads moves -/

/-- An operation in which no head, no command and no leg moves: the device state changes at most by the completion of a hold
or of a drain, which find the heads at rest (R177, R180), no leg end joins or leaves the line, and law 9 goes on. -/
structure Still (s t : State) : Prop where
  device : t.control.state = s.control.state ∨
    (s.control.state = .holding ∧ t.control.state = .held ∧ ∀ h : HeadId, (s.head h).state = .stopped) ∨
    (s.control.state = .draining ∧ t.control.state = .drained ∧ ∀ h : HeadId, (s.head h).state = .idle)
  state : ∀ h : HeadId, (t.head h).state = (s.head h).state
  legs : ∀ h : HeadId, (t.head h).legs = (s.head h).legs
  link : t.link = s.link
  waiting : t.rail.waiting = s.rail.waiting
  ends : t.legEnds = s.legEnds
  books : s.oneRequest → t.oneRequest

theorem Still.refl (s : State) : Still s s := ⟨.inl rfl, fun _ => rfl, fun _ => rfl, rfl, rfl, rfl, id⟩

theorem Still.trans {s t u : State} (h : Still s t) (k : Still t u) : Still s u := by
  refine ⟨?_, fun x => (k.state x).trans (h.state x), fun x => (k.legs x).trans (h.legs x), k.link.trans h.link,
    k.waiting.trans h.waiting, k.ends.trans h.ends, k.books ∘ h.books⟩
  rcases h.device with e | ⟨e1, e2, e3⟩ | ⟨e1, e2, e3⟩
  · rcases k.device with f | ⟨f1, f2, f3⟩ | ⟨f1, f2, f3⟩
    · exact .inl (f.trans e)
    · exact .inr (.inl ⟨e ▸ f1, f2, fun x => (h.state x).symm.trans (f3 x)⟩)
    · exact .inr (.inr ⟨e ▸ f1, f2, fun x => (h.state x).symm.trans (f3 x)⟩)
  · refine .inr (.inl ⟨e1, ?_, e3⟩)
    rcases k.device with f | ⟨f1, _⟩ | ⟨f1, _⟩
    · exact f.trans e2
    · rw [e2] at f1; cases f1
    · rw [e2] at f1; cases f1
  · refine .inr (.inr ⟨e1, ?_, e3⟩)
    rcases k.device with f | ⟨f1, _⟩ | ⟨f1, _⟩
    · exact f.trans e2
    · rw [e2] at f1; cases f1
    · rw [e2] at f1; cases f1

theorem Still.foldl {α : Type} (f : State → α → State) (h : ∀ s a, Still s (f s a)) (l : List α) (s : State) :
    Still s (l.foldl f s) := by
  induction l generalizing s with
  | nil => exact Still.refl s
  | cons a l ih => exact (h s a).trans (ih _)

/-- A change of other records alone, the lines of work and law 9 given. -/
theorem Still.of_ends {s t : State} (he : t.legEnds = s.legEnds) (hb : s.oneRequest → t.oneRequest)
    (hc : t.control.state = s.control.state := by rfl) (hh : t.planner.heads = s.planner.heads := by rfl)
    (hl : t.link = s.link := by rfl) (hr : t.rail.waiting = s.rail.waiting := by rfl) : Still s t :=
  ⟨.inl hc, fun _ => by rw [State.head, hh]; rfl, fun _ => by rw [State.head, hh]; rfl, hl, hr, he, hb⟩

/-- A change of records that hold no head, command, leg, task, request or bound head. -/
theorem Still.of_same {s t : State} (hc : t.control.state = s.control.state := by rfl)
    (hs : ∀ i : Site, (t.socket i).bound = (s.socket i).bound := by intro _; rfl)
    (hh : t.planner.heads = s.planner.heads := by rfl) (hq : t.planner.requests = s.planner.requests := by rfl)
    (hl : t.link = s.link := by rfl) (hr : t.rail.waiting = s.rail.waiting := by rfl) (ha : t.agenda = s.agenda := by rfl)
    (ht : t.trailing = s.trailing := by rfl) : Still s t :=
  Still.of_ends (State.legEnds_congr ha ht) (State.oneRequest_of_same hs hq) hc hh hl hr

section
variable (s : State)

/-- A socket's record changed but for its bound head. -/
theorem State.setSocket_still (i : Site) (r : Socket) (h : r.bound = (s.socket i).bound := by rfl) :
    Still s (s.setSocket i r) := by
  refine Still.of_same (hs := fun j => ?_)
  rw [State.socket_setSocket]
  split
  · rename_i e; rw [h, e]
  · rfl

/-- A socket unbound. -/
theorem State.setSocket_free_still (i : Site) (r : Socket) (h : r.bound = none := by rfl) : Still s (s.setSocket i r) :=
  Still.of_ends rfl (State.oneRequest_of_one i (fun j e => by rw [State.socket_setSocket, if_neg e]) (fun _ _ => rfl)
    (.inl (by rw [State.socket_setSocket_self, h])))

/-- The request of a site that is not bound changed, or any request withdrawn. -/
theorem State.setRequest_still (i : Site) (r : Option Request) (h : (s.socket i).bound = none ∨ r = none) :
    Still s (s.setRequest i r) :=
  Still.of_ends rfl (State.oneRequest_of_one i (fun _ _ => rfl) (fun j e => by rw [State.request_setRequest, if_neg e])
    (h.imp_right fun e => by rw [State.request_setRequest, if_pos rfl, e]))

theorem State.push_still (x : Task) (h : x.isLegEnd = false) : Still s (s.push x) :=
  Still.of_ends (State.legEnds_push s x h) (State.oneRequest_of_same (fun _ => rfl) rfl)

theorem State.pushTrailing_still (x : Task) (h : x.isLegEnd = false) : Still s (s.pushTrailing x) :=
  Still.of_ends (State.legEnds_pushTrailing s x h) (State.oneRequest_of_same (fun _ => rfl) rfl)

theorem State.setTest_still (i : Site) (r : TestRecord) : Still s (s.setTest i r) := Still.of_same
theorem State.setUnit_still (u : Handle) (r : Option UnitRecord) : Still s (s.setUnit u r) := Still.of_same
theorem State.modUnit_still (u : Handle) (f : UnitRecord → UnitRecord) : Still s (s.modUnit u f) := Still.of_same
theorem State.setStrip_still (p : Fin 16) (r : StripPocket) : Still s (s.setStrip p r) := Still.of_same
theorem State.setRetest_still (l : List RetestEntry) : Still s (s.setRetest l) := Still.of_same
theorem State.setFrame_still (f : FrameId) (r : FrameRecord) : Still s (s.setFrame f r) := Still.of_same
theorem State.setMem_still (m : List Host.Cell) : Still s (s.setMem m) := Still.of_same
theorem State.poke_still (a : Nat) (w : Word) : Still s (s.poke a w) := Still.of_same
theorem State.writeFrameState_still (f : FrameId) (st : FrameState) : Still s (s.writeFrameState f st) := Still.of_same
theorem State.writeReason_still (f : FrameId) (r : FrameReason) (n : Nat) : Still s (s.writeReason f r n) := Still.of_same
theorem State.reach_still (n : Nat) : Still s (s.reach n) := Still.of_same
theorem State.send_still (m : Message) : Still s (s.send m) := Still.of_same
theorem State.setResult_still (n : Nat) : Still s (s.setResult n) := Still.of_same
theorem State.setErrorAddress_still (n : Nat) : Still s (s.setErrorAddress n) := Still.of_same

theorem State.setRegisters_still (r : Registers) : Still s (s.setRegisters r) :=
  Still.of_same (by simp) (fun i => by simp [State.socket]) (by simp) (by simp) (by simp) (by simp) (by simp) (by simp)

theorem State.setFlag_still (c : AttentionClass) : Still s (s.setFlag c) := State.setRegisters_still s _

/-- The slots of a head changed. -/
theorem State.setSlot_still (h : HeadId) (k : Nozzle) (u : Option Handle) : Still s (s.setSlot h k u) := by
  refine ⟨.inl rfl, fun g => ?_, fun g => ?_, rfl, rfl, rfl, State.oneRequest_of_same (fun _ => rfl) rfl⟩ <;>
  · simp only [State.setSlot, State.head_setHead]
    split
    · rename_i e; rw [e]
    · rfl

/-! ## The notice board and the two tests -/

theorem State.writeNotice_still (k : SlotId) (n : Notice) : Still s (s.writeNotice k n) :=
  Still.trans (t := { s.setMem _ with board := _ }) Still.of_same (State.setFlag_still _ .notice)

theorem State.raise_still (n : Notice) : Still s (s.raise n) := by
  refine (State.setFlag_still s .notice).trans ?_
  unfold State.raise
  simp only
  split
  · exact State.writeNotice_still _ _ _
  · exact Still.of_same

theorem State.slotFreed_still (k : SlotId) : Still s (s.slotFreed k) := by
  refine (State.poke_still s (Config.slotBase k) 0#32).trans ?_
  unfold State.slotFreed
  simp only
  split
  · exact Still.refl _
  · rename_i n rest _
    have hw : Still (s.poke (Config.slotBase k) 0#32)
        ({ s.poke (Config.slotBase k) 0#32 with
            board := { (s.poke (Config.slotBase k) 0#32).board with queue := rest } }.writeNotice k n) :=
      Still.trans Still.of_same (State.writeNotice_still _ k n)
    split
    · exact hw.trans ((State.push_still _ _ rfl).trans (State.push_still _ _ rfl))
    · exact hw

theorem State.slotWrite_still (k : SlotId) (narrow : Bool) (v : Word) : Still s (s.slotWrite k narrow v) := by
  unfold State.slotWrite
  simp only
  split
  · exact State.setErrorAddress_still s _
  · split
    · exact Still.refl _
    · split
      · exact State.slotFreed_still s k
      · exact State.setErrorAddress_still s _

theorem State.bothHeads_iff (st : HeadState) : s.bothHeads st = true ↔ ∀ h : HeadId, (s.head h).state = st := by
  simp only [State.bothHeads, Bool.and_eq_true, beq_iff_eq]
  exact ⟨fun e h => by cases h; exacts [e.1, e.2], fun e => ⟨e .a, e .b⟩⟩

theorem State.holdTest_still : Still s s.holdTest := by
  unfold State.holdTest
  split
  · rename_i h
    simp only [Bool.and_eq_true, State.isIn_iff, State.bothHeads_iff] at h
    refine Still.trans (t := { s with control := { s.control with state := .held, holdAck := true } }) ?_
      (State.setFlag_still _ .state)
    exact ⟨.inr (.inl ⟨h.1.1, rfl, h.1.2⟩), fun _ => rfl, fun _ => rfl, rfl, rfl, rfl,
      State.oneRequest_of_same (fun _ => rfl) rfl⟩
  · exact Still.refl s

theorem State.drainTest_still : Still s s.drainTest := by
  unfold State.drainTest
  split
  · rename_i h
    simp only [Bool.and_eq_true, State.isIn_iff, State.bothHeads_iff] at h
    refine Still.trans (t := s.setDevice .drained) ?_ (State.setFlag_still _ .state)
    exact ⟨.inr (.inr ⟨h.1.1, rfl, h.2⟩), fun _ => rfl, fun _ => rfl, rfl, rfl, rfl,
      State.oneRequest_of_same (fun _ => rfl) rfl⟩
  · exact Still.refl s

/-! ## The unit table -/

theorem State.createUnit_still (serial : Word) (st : Fin 2) (tray : BitVec 16) (i : Nat) (h : HeadId) (k : Nozzle) :
    Still s (s.createUnit serial st tray i h k).1 := by
  unfold State.createUnit
  split
  · exact Still.of_same
  · exact Still.refl s

theorem State.rerouteNozzle_still (h : HeadId) (k : Nozzle) : Still s (s.rerouteNozzle h k) := by
  unfold State.rerouteNozzle
  split
  · exact Still.refl s
  · split
    · exact Still.refl s
    · split
      · exact Still.refl s
      · exact (State.setUnit_still s _ _).trans (State.push_still _ _ rfl)

theorem State.reroute_still : Still s s.reroute := by
  unfold State.reroute
  split
  · exact Still.refl s
  · exact (Still.foldl _ (fun s k => State.rerouteNozzle_still s .a k) _ s).trans
      (Still.foldl _ (fun s k => State.rerouteNozzle_still s .b k) _ _)

theorem State.reportUnusable_still (i : Site) (b : Bool) : Still s (s.reportUnusable i b) := by
  unfold State.reportUnusable
  split
  · exact State.reroute_still s
  · exact Still.refl s

theorem State.dropEntry_still (p : Fin 16) : Still s (s.dropEntry p) :=
  (State.setRetest_still s _).trans (State.push_still _ _ rfl)

theorem State.freeUnit_still (u : Handle) : Still s (s.freeUnit u) :=
  (State.setUnit_still s u none).trans (State.drainTest_still _)

theorem State.vacate_still (p : Place) : Still s (s.vacate p) := by
  unfold State.vacate
  split
  · exact State.setSlot_still s _ _ _
  · exact State.setSocket_still s _ _
  · exact (State.setStrip_still s _ _).trans (State.dropEntry_still _ _)

theorem State.declareLost_still (u : Handle) (c : LossCause) : Still s (s.declareLost u c) := by
  unfold State.declareLost
  split
  · exact Still.refl s
  · exact (State.raise_still s _).trans ((State.vacate_still _ _).trans (State.freeUnit_still _ u))

/-! ## The tray frame unit -/

theorem State.reportRoom_still (st : Station) : Still s (s.reportRoom st) := by
  unfold State.reportRoom
  split
  · split
    · exact State.push_still s _ rfl
    · exact Still.refl s
  · exact Still.refl s

theorem State.leaveInputs_still (f : FrameId) : Still s (s.leaveInputs f) := by
  have h : Still s { s with trays := { s.trays with inputs := s.trays.inputs.filter fun g => g != f } } := Still.of_same
  refine h.trans ?_
  unfold State.leaveInputs
  simp only
  split
  · split
    · exact State.push_still _ _ rfl
    · exact Still.refl _
  · exact Still.refl _

theorem State.spend_still (f : FrameId) (r : FrameReason) : Still s (s.spend f r) :=
  (State.writeReason_still s f r _).trans ((State.writeFrameState_still _ f .spent).trans ((State.setFlag_still _ .tray).trans
    ((State.leaveInputs_still _ f).trans (State.setFrame_still _ f _))))

theorem State.closedTest_still (f : FrameId) : Still s (s.closedTest f) := by
  unfold State.closedTest
  simp only
  split
  · exact State.spend_still s f _
  · exact Still.refl s

theorem State.completionTest_still (f : FrameId) : Still s (s.completionTest f) := by
  unfold State.completionTest
  split
  · exact State.spend_still s f _
  · exact State.closedTest_still s f

theorem State.writeResult_still (f : FrameId) (i : Nat) (ws : List Word) : Still s (s.writeResult f i ws) := by
  unfold State.writeResult
  split
  · exact (State.setMem_still s _).trans ((State.setFrame_still _ f _).trans ((State.poke_still _ _ _).trans
      (State.completionTest_still _ f)))
  · exact Still.refl s

theorem State.writeOutcome_still (f : FrameId) (i : Nat) (u : UnitRecord) : Still s (s.writeOutcome f i u) := by
  unfold State.writeOutcome
  split
  · exact (State.poke_still s _ _).trans (State.writeResult_still _ f i _)
  · exact Still.refl s

theorem State.rejectFrame_still (f : FrameId) (r : FrameReason) : Still s (s.rejectFrame f r) := by
  refine (State.writeReason_still s f r 0).trans ((State.writeFrameState_still _ f .rejected).trans
    ((State.setFlag_still _ .tray).trans ?_))
  unfold State.rejectFrame
  simp only
  split
  · exact Still.refl _
  · exact State.setFrame_still _ f _

theorem State.activateFrame_still (f : FrameId) (st : Station) : Still s (s.activateFrame f st) := by
  have hc : Still s (s.copyFrame f st) :=
    (State.setFrame_still s f _).trans ((State.setMem_still _ _).trans ((State.writeReason_still _ f _ _).trans
      (State.writeFrameState_still _ f _)))
  refine hc.trans ?_
  unfold State.activateFrame
  simp only
  split
  · exact Still.trans Still.of_same (State.push_still _ _ rfl)
  · split
    · exact State.spend_still _ f _
    · exact (State.push_still _ _ rfl).trans (State.reportRoom_still _ _)

theorem State.takePosted_still (f : FrameId) : Still s (s.takePosted f) := by
  unfold State.takePosted
  split
  · exact State.rejectFrame_still s f _
  · exact State.activateFrame_still s f _

theorem State.takeAllPosted_still : Still s s.takeAllPosted := by
  refine Still.foldl _ (fun s f => ?_) _ s
  split
  · exact State.takePosted_still s f
  · exact Still.refl s

/-! ## Sockets -/

theorem State.enterTimed_still (i : Site) (st : SocketState) (k : TimerKind) : Still s (s.enterTimed i st k) := by
  have h : Still s (s.setSocket i { s.socket i with state := st, timer := s.newTimer i k }) := State.setSocket_still s i _
  unfold State.enterTimed
  simp only
  split
  · exact h.trans (State.pushTrailing_still _ _ rfl)
  · exact h

theorem State.enterStopped_still (i : Site) (st : SocketState) : Still s (s.enterStopped i st) :=
  State.setSocket_still s i _

theorem State.updateRequests_still (i : Site) : Still s (s.updateRequests i) := by
  unfold State.updateRequests
  split
  · exact Still.refl s
  · rename_i hb
    split
    · exact (State.setRequest_still s i _ (.inl hb)).trans (State.push_still _ _ rfl)
    · split
      · exact Still.refl s
      · exact State.setRequest_still s i _ (.inl hb)
    · exact State.setRequest_still s i _ (.inr rfl)
    · exact Still.refl s

theorem State.unbind_still (i : Site) : Still s (s.unbind i) :=
  (State.setSocket_free_still s i _).trans (State.updateRequests_still _ i)

theorem State.sendStart_still (i : Site) : Still s (s.sendStart i) :=
  (State.send_still s _).trans ((State.setTest_still _ i _).trans
    ((State.setSocket_still _ i _).trans (State.enterTimed_still _ i _ _)))

theorem State.retireCheck_still (i : Site) : Still s (s.retireCheck i) := by
  unfold State.retireCheck
  simp only
  split
  · exact (State.setSocket_still s i { s.socket i with stop := .retire }).trans ((State.raise_still _ _).trans
      ((State.setFlag_still _ .site).trans ((State.updateRequests_still _ i).trans (State.reportUnusable_still _ i _))))
  · exact Still.refl s

theorem State.closeUnit_still (i : Site) (b : Fin 64) (d : Nat) (l : LateMarker) : Still s (s.closeUnit i b d l) := by
  unfold State.closeUnit
  split
  · exact Still.refl s
  · exact State.modUnit_still s _ _

theorem State.closeTest_still (i : Site) (b : Fin 64) (d : Nat) (l : LateMarker) (n : Nat) : Still s (s.closeTest i b d l n) :=
  (State.closeUnit_still s i b d l).trans ((State.setTest_still _ i _).trans ((State.send_still _ (.release i)).trans
    ((State.enterTimed_still _ i _ _).trans ((State.setSocket_still _ i _).trans ((State.updateRequests_still _ i).trans
      (State.retireCheck_still _ i))))))

theorem State.siteDrop_still (i : Site) : Still s (s.siteDrop i) :=
  (State.closeTest_still s i _ _ _ _).trans ((State.raise_still _ _).trans (State.setFlag_still _ .site))

theorem State.eotExpired_still (i : Site) : Still s (s.eotExpired i) :=
  (State.closeTest_still s i _ _ _ _).trans ((State.raise_still _ _).trans (State.setFlag_still _ .site))

theorem State.lateEnd_still (i : Site) (b : Byte) : Still s (s.lateEnd i b) := by
  unfold State.lateEnd
  simp only
  split
  · exact State.raise_still s _
  · exact (State.raise_still s _).trans (State.setTest_still _ i _)
  · exact (State.raise_still s _).trans (State.setTest_still _ i _)

theorem State.takeEnd_still (i : Site) (b : Byte) : Still s (s.takeEnd i b) := by
  unfold State.takeEnd
  split
  · exact State.closeTest_still s i _ _ _ _
  · exact State.lateEnd_still s i b

theorem State.takeReady_still (i : Site) (up : Bool) : Still s (s.takeReady i up) := by
  refine (State.setSocket_still s i { s.socket i with ready := up }).trans ?_
  unfold State.takeReady
  simp only
  split
  · split
    · exact State.sendStart_still _ i
    · exact Still.refl _
  · exact State.siteDrop_still _ i
  · exact State.updateRequests_still _ i
  · exact Still.refl _

theorem State.contactExpired_still (i : Site) : Still s (s.contactExpired i) := by
  refine (State.setSocket_still s i { s.socket i with timer := .expired }).trans ?_
  unfold State.contactExpired
  simp only
  split
  · exact State.sendStart_still _ i
  · exact Still.refl _

theorem State.releaseExpired_still (i : Site) : Still s (s.releaseExpired i) :=
  (State.enterStopped_still s i _).trans (State.updateRequests_still _ i)

theorem State.placedAtSocket_still (i : Site) (u : Handle) : Still s (s.placedAtSocket i u) :=
  (State.setSocket_still s i _).trans ((State.send_still _ (.contact i)).trans ((State.enterTimed_still _ i _ _).trans
    (State.unbind_still _ i)))

theorem State.pickedAtSocket_still (i : Site) : Still s (s.pickedAtSocket i) := by
  refine ((State.setSocket_still s i { s.socket i with unit := none }).trans
    (State.enterTimed_still _ i .recovering .recovery)).trans ?_
  unfold State.pickedAtSocket
  simp only
  split
  · exact Still.refl _
  · exact State.unbind_still _ i

theorem State.jam_still (i : Site) (h : HeadId) (k : Nozzle) (w : Option Word) : Still s (s.jam i h k w) :=
  (State.enterStopped_still s i .jammed).trans ((State.unbind_still _ i).trans ((State.raise_still _ _).trans
    ((State.setFlag_still _ .site).trans (State.reportUnusable_still _ i _))))

theorem State.editLockout_still (i : Site) : Still s (s.editLockout i) := by
  unfold State.editLockout
  simp only
  split
  · split <;> exact State.setSocket_still s i _
  · exact Still.refl s

theorem State.editReinstate_still (i : Site) (b : Bool) : Still s (s.editReinstate i b) := by
  unfold State.editReinstate
  simp only
  split
  · exact State.setSocket_still s i _
  · exact Still.refl s

theorem State.editJamClear_still (i : Site) (b : Bool) : Still s (s.editJamClear i b) := by
  have clear : ∀ t : State, Still t ((t.setSocket i { t.socket i with unit := none }).enterTimed i .recovering .recovery) :=
    fun t => (State.setSocket_still t i _).trans (State.enterTimed_still _ i _ _)
  unfold State.editJamClear
  split
  · simp only
    split
    · exact clear s
    · exact (State.declareLost_still s _ _).trans (clear _)
  · exact Still.refl s

theorem State.editEnable_still (i : Site) : Still s (s.editEnable i) := by
  unfold State.editEnable
  simp only
  split
  · exact Still.refl s
  · split
    · exact State.setSocket_still s i _
    · exact State.setSocket_still s i _
    · exact Still.refl s
    · exact Still.refl s
    · exact Still.refl s
    · exact Still.refl s
    · split
      · exact State.setSocket_still s i _
      · exact Still.refl s
    · split
      · exact State.setSocket_still s i _
      · exact Still.refl s

theorem State.editSite_still (i : Site) (a b : Bool) : Still s (s.editSite i a b) :=
  (State.editLockout_still s i).trans ((State.editReinstate_still _ i a).trans ((State.editJamClear_still _ i b).trans
    ((State.editEnable_still _ i).trans (State.updateRequests_still _ i))))

/-! ## Reports to their owners -/

theorem State.inputPicked_still (h : HeadId) (k : Nozzle) (f : FrameId) (i : Nat) : Still s (s.inputPicked h k f i) := by
  unfold State.inputPicked
  split
  · exact Still.refl s
  · exact Still.refl s
  · simp only
    exact (State.createUnit_still s _ _ _ _ _ _).trans ((State.setSlot_still _ h k _).trans
      ((State.writeResult_still _ f i _).trans (State.reroute_still _)))

theorem State.stripPicked_still (h : HeadId) (k : Nozzle) (p : Fin 16) : Still s (s.stripPicked h k p) := by
  unfold State.stripPicked
  split
  · exact Still.refl s
  · exact Still.refl s
  · exact (State.setSlot_still s h k _).trans ((State.modUnit_still _ _ _).trans ((State.setStrip_still _ p _).trans
      (State.dropEntry_still _ p)))

theorem State.stripPickFailed_still (p : Fin 16) : Still s (s.stripPickFailed p) := by
  unfold State.stripPickFailed
  simp only
  split
  · exact State.setStrip_still s p _
  · exact (State.declareLost_still s _ _).trans (State.setStrip_still _ p _)

theorem State.socketPicked_still (h : HeadId) (k : Nozzle) (i : Site) : Still s (s.socketPicked h k i) := by
  unfold State.socketPicked
  split
  · simp only
    split
    · exact State.pickedAtSocket_still s i
    · exact (State.setSlot_still s h k _).trans ((State.modUnit_still _ _ _).trans (State.pickedAtSocket_still _ i))
  · exact Still.refl s

theorem State.socketPlaced_still (h : HeadId) (k : Nozzle) (i : Site) (u : Handle) : Still s (s.socketPlaced h k i u) := by
  unfold State.socketPlaced
  split
  · exact (State.setSlot_still s h k _).trans ((State.modUnit_still _ _ _).trans (State.placedAtSocket_still _ i u))
  · exact Still.refl s

theorem State.stripPlaced_still (h : HeadId) (k : Nozzle) (p : Fin 16) (u : Handle) : Still s (s.stripPlaced h k p u) := by
  unfold State.stripPlaced
  split
  · exact (State.setSlot_still s h k _).trans ((State.modUnit_still _ _ _).trans ((State.setStrip_still _ p _).trans
      ((State.setRetest_still _ _).trans (State.push_still _ _ rfl))))
  · exact Still.refl s

theorem State.outputPlaced_still (h : HeadId) (k : Nozzle) (f : FrameId) (i : Nat) (u : Handle) :
    Still s (s.outputPlaced h k f i u) := by
  unfold State.outputPlaced
  split
  · exact Still.refl s
  · split
    · exact (State.writeOutcome_still s f i _).trans ((State.freeUnit_still _ u).trans (State.setSlot_still _ h k _))
    · exact Still.refl s

theorem State.report_still (h : HeadId) (l : Leg) (k : Nozzle) (ok : Bool) : Still s (s.report h l k ok) := by
  unfold State.report
  split
  · split
    · exact State.inputPicked_still s _ _ _ _
    · exact Still.refl s
  · split
    · exact State.writeResult_still s _ _ _
    · exact Still.refl s
  · exact State.stripPicked_still s _ _ _
  · exact State.stripPickFailed_still s _
  · exact State.socketPicked_still s _ _ _
  · split
    · exact State.jam_still s _ _ _ _
    · exact Still.refl s
  · split
    · exact State.socketPlaced_still s _ _ _ _
    · exact Still.refl s
  · split
    · exact State.jam_still s _ _ _ _
    · exact Still.refl s
  · split
    · exact State.stripPlaced_still s _ _ _ _
    · exact Still.refl s
  · exact (State.setStrip_still s _ _).trans (State.raise_still _ _)
  · split
    · exact State.outputPlaced_still s _ _ _ _ _
    · exact Still.refl s
  · split
    · exact (State.writeResult_still s _ _ _).trans (State.raise_still _ _)
    · exact Still.refl s
  · exact Still.refl s

/-! ## The configuration loader and the host's writes -/

theorem State.refuseArm_still (c : Nat) (o : Option Nat) : Still s (s.refuseArm c o) := by
  have h : Still s ({ s with control := { s.control with arming := none } }.setResult c) := Still.of_same
  refine h.trans ?_
  unfold State.refuseArm
  simp only
  split
  · exact State.takeAllPosted_still _
  · exact (State.setErrorAddress_still _ _).trans (State.takeAllPosted_still _)

theorem State.startArm_still : Still s s.startArm := by
  refine (State.setResult_still s 1).trans ?_
  unfold State.startArm
  simp only
  split
  · exact State.refuseArm_still _ _ _
  · exact Still.of_same

theorem State.rejectStale_still (f : FrameId) : Still s (s.rejectStale f) := by
  unfold State.rejectStale
  simp only
  split
  · exact (State.writeReason_still s f _ _).trans ((State.writeFrameState_still _ f _).trans (State.setFrame_still _ f _))
  · exact Still.refl s

theorem State.armFrames_still : Still s s.armFrames := by
  refine ((Still.foldl _ (fun s f => State.rejectStale_still s f) allFrames s).trans (State.takeAllPosted_still _)).trans ?_
  unfold State.armFrames
  simp only
  split
  · exact State.setFlag_still _ .tray
  · exact Still.refl _

theorem State.positionWaitOver_still : Still s s.positionWaitOver := by
  unfold State.positionWaitOver
  split
  · exact Still.refl s
  · exact (State.reach_still s _).trans (State.refuseArm_still _ _ _)

theorem State.writeBack_still (i : Site) (w : Word) : Still s (s.writeBack i w) := by
  unfold State.writeBack
  split
  · exact State.poke_still s _ _
  · exact Still.refl s

theorem State.takeEdits_still : Still s s.takeEdits := by
  unfold State.takeEdits
  generalize allSites = l
  exact Still.trans (Still.foldl (fun (s : State) i => s.editSite i _ _) (fun s i => State.editSite_still s i _ _) l s)
    (Still.foldl (fun (s : State) i => s.writeBack i _) (fun s i => State.writeBack_still s i _) l _)

theorem State.runFromHeld_still : Still s s.runFromHeld := by
  unfold State.runFromHeld
  split
  · exact (State.setResult_still s _).trans (State.setErrorAddress_still _ _)
  · refine Still.trans (t := { s with shadow := some (rereadInto s.cfg s.mem) }.setResult 0) Still.of_same
      ((State.takeEdits_still _).trans ?_)
    simp only
    split
    · exact (State.reroute_still _).trans (State.push_still _ _ rfl)
    · exact State.push_still _ _ rfl

theorem State.refuseFrameWrite_still (f : FrameId) : Still s (s.refuseFrameWrite f) := by
  refine (State.setErrorAddress_still s (Config.frameBase f)).trans ?_
  unfold State.refuseFrameWrite
  simp only
  split
  · exact Still.refl _
  · exact State.raise_still _ _

theorem State.acceptPosted_still (f : FrameId) : Still s (s.acceptPosted f) := by
  refine (State.writeFrameState_still s f .posted).trans ?_
  unfold State.acceptPosted
  simp only
  split
  · exact Still.refl _
  · exact State.takePosted_still _ f

theorem State.acceptFree_still (f : FrameId) : Still s (s.acceptFree f) :=
  (State.writeFrameState_still s f .free).trans (State.setFrame_still _ f FrameRecord.reset)

theorem State.refuseRequest_still : Still s s.refuseRequest := by
  unfold State.refuseRequest
  split <;> exact State.setResult_still s _

theorem State.requestArm_still : Still s s.requestArm := by
  unfold State.requestArm
  split
  · exact State.startArm_still s
  · exact State.refuseRequest_still s

theorem State.fromTester_still (n : Nat) (f : Site → State) (h : ∀ i, Still s (f i)) : Still s (s.fromTester n f) := by
  unfold State.fromTester
  split
  · split
    · exact Still.refl s
    · exact h _
  · exact Still.refl s

end

end Sys2Proof.Machine
end

section
set_option Elab.async false

namespace Sys2Proof.Machine

/-! ## Side work of the planner and the arbiter -/

/-- Side work that a choice of the planner or the arbiter starts: claims, pocket marks and strip reservations made and
released, units re-routed, a request given back. No head, no rail record and no command changes; of a socket at most the
bound head does; no byte below the tray frames is written, and only selections are put in line. -/
structure Aside (s t : State) : Prop where
  control : t.control = s.control
  heads : t.planner.heads = s.planner.heads
  link : t.link = s.link
  rail : t.rail = s.rail
  outbox : ∃ l : List Message, t.outbox = s.outbox ++ l ∧ ∀ m ∈ l, m = .interrupt
  sockets : ∀ i : Site, t.socket i = { s.socket i with bound := (t.socket i).bound }
  low : ∀ a : Nat, a < 0x4000 → readByte t.mem a = readByte s.mem a
  board : t.board = s.board
  time : t.time = s.time
  ends : t.legEnds = s.legEnds
  tasks : ∀ x ∈ t.agenda ++ t.trailing, x ∈ s.agenda ++ s.trailing ∨ x.isSelection = true
  books : s.oneRequest → t.oneRequest

/-- What whatever the planner and the arbiter decide leaves alone: the sockets but for their bound heads, memory below the
tray frames, the notice board, the time, the leg ends in line; only selections are put in line, and law 9 goes on. -/
structure Chooses (s t : State) : Prop where
  sockets : ∀ i : Site, t.socket i = { s.socket i with bound := (t.socket i).bound }
  low : ∀ a : Nat, a < 0x4000 → readByte t.mem a = readByte s.mem a
  board : t.board = s.board
  time : t.time = s.time
  ends : t.legEnds = s.legEnds
  tasks : ∀ x ∈ t.agenda ++ t.trailing, x ∈ s.agenda ++ s.trailing ∨ x.isSelection = true
  books : s.oneRequest → t.oneRequest

/-- A socket that differs at most in its bound head, twice. -/
theorem Socket.boundOnly_trans {a b c : Socket} (h : b = { a with bound := b.bound }) (k : c = { b with bound := c.bound }) :
    c = { a with bound := c.bound } := by
  rw [h] at k
  exact k

theorem Aside.chooses {s t : State} (h : Aside s t) : Chooses s t :=
  ⟨h.sockets, h.low, h.board, h.time, h.ends, h.tasks, h.books⟩

theorem Aside.head {s t : State} (h : Aside s t) (k : HeadId) : t.head k = s.head k := by rw [State.head, h.heads]; rfl

theorem Aside.still {s t : State} (h : Aside s t) : Still s t :=
  ⟨.inl (by rw [h.control]), fun k => by rw [h.head], fun k => by rw [h.head], h.link, by rw [h.rail], h.ends, h.books⟩

theorem Aside.refl (s : State) : Aside s s :=
  ⟨rfl, rfl, rfl, rfl, ⟨[], (List.append_nil _).symm, by simp⟩, fun _ => rfl, fun _ _ => rfl, rfl, rfl, rfl,
    fun _ => .inl, id⟩

theorem Chooses.refl (s : State) : Chooses s s := (Aside.refl s).chooses

theorem Chooses.trans {s t u : State} (h : Chooses s t) (k : Chooses t u) : Chooses s u :=
  ⟨fun i => Socket.boundOnly_trans (h.sockets i) (k.sockets i), fun a ha => (k.low a ha).trans (h.low a ha),
    k.board.trans h.board, k.time.trans h.time, k.ends.trans h.ends,
    fun x hx => (k.tasks x hx).elim (h.tasks x) .inr, k.books ∘ h.books⟩

theorem Aside.trans {s t u : State} (h : Aside s t) (k : Aside t u) : Aside s u := by
  obtain ⟨l, hl, hi⟩ := h.outbox
  obtain ⟨m, hm, hj⟩ := k.outbox
  have c := h.chooses.trans k.chooses
  refine ⟨k.control.trans h.control, k.heads.trans h.heads, k.link.trans h.link, k.rail.trans h.rail,
    ⟨l ++ m, by rw [hm, hl, List.append_assoc], fun x hx => (List.mem_append.1 hx).elim (hi x) (hj x)⟩,
    c.sockets, c.low, c.board, c.time, c.ends, c.tasks, c.books⟩

theorem Aside.foldl {α : Type} (f : State → α → State) (h : ∀ s a, Aside s (f s a)) (l : List α) (s : State) :
    Aside s (l.foldl f s) := by
  induction l generalizing s with
  | nil => exact Aside.refl s
  | cons a l ih => exact (h s a).trans (ih _)

/-- A change of unit records, strip pockets, the retest list, frames, the supply marker or the count of free choices. -/
theorem Aside.of_same {s t : State} (hc : t.control = s.control := by rfl) (hh : t.planner.heads = s.planner.heads := by rfl)
    (hl : t.link = s.link := by rfl) (hr : t.rail = s.rail := by rfl) (ho : t.outbox = s.outbox := by rfl)
    (hs : t.sites = s.sites := by rfl) (hm : t.mem = s.mem := by rfl) (hb : t.board = s.board := by rfl)
    (hk : t.time = s.time := by rfl) (ha : t.agenda = s.agenda := by rfl) (ht : t.trailing = s.trailing := by rfl)
    (hq : t.planner.requests = s.planner.requests := by rfl) : Aside s t := by
  have socket : ∀ i, t.socket i = s.socket i := fun i => by rw [State.socket, hs]; rfl
  exact ⟨hc, hh, hl, hr, ⟨[], by rw [ho, List.append_nil], by simp⟩, fun i => by rw [socket], fun _ _ => by rw [hm], hb, hk,
    State.legEnds_congr ha ht, fun x hx => .inl (by rwa [ha, ht] at hx),
    State.oneRequest_of_same (fun i => by rw [socket]) hq⟩

section
variable (s : State)

theorem State.setUnit_aside (u : Handle) (r : Option UnitRecord) : Aside s (s.setUnit u r) := Aside.of_same
theorem State.setStrip_aside (p : Fin 16) (r : StripPocket) : Aside s (s.setStrip p r) := Aside.of_same
theorem State.setClaim_aside (p : Fin 16) (c : Option HeadId) : Aside s (s.setClaim p c) := Aside.of_same
theorem State.setFrame_aside (f : FrameId) (r : FrameRecord) : Aside s (s.setFrame f r) := Aside.of_same
theorem State.setMark_aside (f : FrameId) (i : Nat) (m : PocketMark) : Aside s (s.setMark f i m) := Aside.of_same

/-- A selection put in line. -/
theorem State.push_aside (x : Task) (h : x.isSelection = true) : Aside s (s.push x) := by
  refine ⟨rfl, rfl, rfl, rfl, ⟨[], (List.append_nil _).symm, by simp⟩, fun _ => rfl, fun _ _ => rfl, rfl, rfl,
    State.legEnds_push s x (Task.isLegEnd_of_isSelection h), fun y hy => ?_, State.oneRequest_of_same (fun _ => rfl) rfl⟩
  simp only [State.push, List.mem_append, List.mem_singleton] at hy ⊢
  rcases hy with (hy | rfl) | hy
  · exact .inl (.inl hy)
  · exact .inr h
  · exact .inl (.inr hy)

theorem State.setFlag_aside (c : AttentionClass) : Aside s (s.setFlag c) := by
  have o : ∃ l : List Message, (s.setFlag c).outbox = s.outbox ++ l ∧ ∀ m ∈ l, m = .interrupt := by
    refine ⟨_, State.setRegisters_outbox s _, fun m hm => ?_⟩
    split at hm
    · exact List.mem_singleton.1 hm
    · cases hm
  refine ⟨by simp, by simp, by simp, by simp, o, fun i => ?_, fun _ _ => by simp, by simp, by simp,
    State.legEnds_congr (by simp) (by simp), fun x hx => .inl (by simpa using hx), (State.setFlag_still s c).books⟩
  simp [State.socket]

/-- A word of a tray frame written. -/
theorem State.poke_aside (a : Nat) (w : Word) (h : 0x4000 ≤ a) : Aside s (s.poke a w) :=
  ⟨rfl, rfl, rfl, rfl, ⟨[], (List.append_nil _).symm, by simp⟩, fun _ => rfl,
    fun b hb => readByte_writeWord_of_outside _ _ _ _ (.inl (by omega)), rfl, rfl, rfl, fun _ => .inl,
    State.oneRequest_of_same (fun _ => rfl) rfl⟩

theorem State.reportRoom_aside (st : Station) : Aside s (s.reportRoom st) := by
  unfold State.reportRoom
  split
  · split
    · exact State.push_aside s _ rfl
    · exact Aside.refl s
  · exact Aside.refl s

theorem State.leaveInputs_aside (f : FrameId) : Aside s (s.leaveInputs f) := by
  have h : Aside s { s with trays := { s.trays with inputs := s.trays.inputs.filter fun g => g != f } } := Aside.of_same
  refine h.trans ?_
  unfold State.leaveInputs
  simp only
  split
  · split
    · exact State.push_aside _ _ rfl
    · exact Aside.refl _
  · exact Aside.refl _

theorem frameBase_le (f : FrameId) : 0x4000 ≤ Config.frameBase f := Nat.le_add_right _ _

theorem State.spend_aside (f : FrameId) (r : FrameReason) : Aside s (s.spend f r) :=
  (State.poke_aside s (Config.frameBase f + 0x0C) _ ((frameBase_le f).trans (Nat.le_add_right _ _))).trans
    ((State.poke_aside _ (Config.frameBase f) _ (frameBase_le f)).trans ((State.setFlag_aside _ .tray).trans
      ((State.leaveInputs_aside _ f).trans (State.setFrame_aside _ f _))))

theorem State.closedTest_aside (f : FrameId) : Aside s (s.closedTest f) := by
  unfold State.closedTest
  simp only
  split
  · exact State.spend_aside s f _
  · exact Aside.refl s

theorem State.releasePocket_aside (f : FrameId) (i : Nat) (h : HeadId) : Aside s (s.releasePocket f i h) := by
  unfold State.releasePocket
  split
  · refine (State.setMark_aside s f i .isOpen).trans ?_
    simp only
    split
    · exact State.closedTest_aside _ f
    · exact State.reportRoom_aside _ _
    · exact Aside.refl _
  · exact Aside.refl s

theorem State.releaseLeg_aside (h : HeadId) (l : Leg) : Aside s (s.releaseLeg h l) := by
  unfold State.releaseLeg
  split
  · exact State.setClaim_aside s _ _
  · split
    · exact State.setStrip_aside s _ _
    · exact Aside.refl s
  · split
    · exact State.releasePocket_aside s _ _ _
    · exact Aside.refl s
  · split
    · exact State.releasePocket_aside s _ _ _
    · exact Aside.refl s
  · exact Aside.refl s
  · exact Aside.refl s

theorem State.releaseLegs_aside (h : HeadId) (d : List Leg) : Aside s (d.foldl (fun s l => s.releaseLeg h l) s) :=
  Aside.foldl _ (fun s l => State.releaseLeg_aside s h l) d s

theorem State.rerouteNozzle_aside (h : HeadId) (k : Nozzle) : Aside s (s.rerouteNozzle h k) := by
  unfold State.rerouteNozzle
  split
  · exact Aside.refl s
  · split
    · exact Aside.refl s
    · split
      · exact Aside.refl s
      · exact (State.setUnit_aside s _ _).trans (State.push_aside _ _ rfl)

theorem State.reroute_aside : Aside s s.reroute := by
  unfold State.reroute
  split
  · exact Aside.refl s
  · exact (Aside.foldl _ (fun s k => State.rerouteNozzle_aside s .a k) _ s).trans
      (Aside.foldl _ (fun s k => State.rerouteNozzle_aside s .b k) _ _)

/-- A socket's bound head set to none. -/
theorem State.setSocket_free_aside (i : Site) : Aside s (s.setSocket i { s.socket i with bound := none }) := by
  refine ⟨rfl, rfl, rfl, rfl, ⟨[], (List.append_nil _).symm, by simp⟩, fun j => ?_, fun _ _ => rfl, rfl, rfl, rfl,
    fun _ => .inl, (State.setSocket_free_still s i _).books⟩
  rw [State.socket_setSocket]
  split
  · rename_i e; rw [e]
  · rfl

/-- The request of a site that is not bound changed, or any request withdrawn. -/
theorem State.setRequest_aside (i : Site) (r : Option Request) (h : (s.socket i).bound = none ∨ r = none) :
    Aside s (s.setRequest i r) :=
  ⟨rfl, rfl, rfl, rfl, ⟨[], (List.append_nil _).symm, by simp⟩, fun _ => rfl, fun _ _ => rfl, rfl, rfl, rfl,
    fun _ => .inl, (State.setRequest_still s i r h).books⟩

theorem State.unbindReturn_aside (i : Site) (r : Nat) : Aside s (s.unbindReturn i r) := by
  refine (State.setSocket_free_aside s i).trans ?_
  unfold State.unbindReturn
  simp only
  split
  · exact (State.setRequest_aside _ i _ (.inl (by rw [State.socket_setSocket_self]))).trans (State.push_aside _ _ rfl)
  · exact Aside.refl _

theorem State.returnRequest_aside (h : HeadId) (j : Job) : Aside s (s.returnRequest h j) := by
  unfold State.returnRequest
  split
  · exact Aside.refl s
  · split
    · exact State.unbindReturn_aside s _ _
    · exact Aside.refl s

theorem State.evaluateSupply_aside : Aside s s.evaluateSupply := by
  have h : Aside s { s with planner := { s.planner with supply := s.supplyNow } } := Aside.of_same
  refine h.trans ?_
  unfold State.evaluateSupply
  simp only
  split
  · exact State.setFlag_aside _ .supply
  · exact Aside.refl _

theorem State.feedLeg_aside (h : HeadId) {t : State} {l : Leg} (e : s.feedLeg h = some (t, l)) : Aside s t := by
  unfold State.feedLeg at e
  split at e
  · cases e; exact State.setClaim_aside s _ _
  · split at e
    · cases e; exact State.setMark_aside s _ _ _
    · cases e

theorem State.commitClass_aside (h : HeadId) (k : Nozzle) (u : Handle) (c : Fin 8) : Aside s (s.commitClass h k u c).1 := by
  unfold State.commitClass
  split
  · exact Aside.refl s
  · simp only
    split
    · exact State.setMark_aside s _ _ _
    · exact (State.setMark_aside s _ _ _).trans (State.releasePocket_aside _ _ _ _)

theorem State.commit_aside (h : HeadId) (k : Nozzle) (u : Handle) : Aside s (s.commit h k u).1 := by
  unfold State.commit
  split
  · exact Aside.refl s
  · split
    · exact Aside.refl s
    · exact State.commitClass_aside s _ _ _ _
    · split
      · split
        · exact State.setStrip_aside s _ _
        · exact Aside.refl s
      · exact (State.setUnit_aside s _ _).trans (State.commitClass_aside _ _ _ _ _)

theorem State.sortLeg_aside (h : HeadId) (taken : List Handle) (n : Nat) (out : List Nozzle) :
    Aside s (s.sortLeg h taken n out).1 := by
  induction n generalizing s out with
  | zero => exact Aside.refl s
  | succ n ih =>
    unfold State.sortLeg
    split
    · exact Aside.refl s
    · rename_i k u _
      have hp := State.commit_aside s h k u
      split
      · rename_i e; rw [e] at hp; exact hp
      · rename_i e; rw [e] at hp; exact hp.trans (ih _ _)

end

/-! ## Tray frames that no leg finds in CLOSE -/

/-- No leg on record is for a pocket of a frame in CLOSE. -/
def State.framesOpen (s : State) : Prop :=
  ∀ h : HeadId, ∀ l ∈ (s.head h).legs, ∀ f : FrameId, l.frame = some f → (s.frame f).state ≠ .close

/-- Neither a byte of exchange memory nor the state of a frame changes. -/
structure Framed (s t : State) : Prop where
  mem : t.mem = s.mem
  frames : ∀ f : FrameId, (t.frame f).state = (s.frame f).state

theorem Framed.refl (s : State) : Framed s s := ⟨rfl, fun _ => rfl⟩

theorem Framed.trans {s t u : State} (h : Framed s t) (k : Framed t u) : Framed s u :=
  ⟨k.mem.trans h.mem, fun f => (k.frames f).trans (h.frames f)⟩

theorem Framed.foldl {α : Type} (f : State → α → State) (h : ∀ s a, Framed s (f s a)) (l : List α) (s : State) :
    Framed s (l.foldl f s) := by
  induction l generalizing s with
  | nil => exact Framed.refl s
  | cons a l ih => exact (h s a).trans (ih _)

theorem Framed.of_same {s t : State} (hm : t.mem = s.mem := by rfl) (hf : t.trays.frames = s.trays.frames := by rfl) :
    Framed s t := ⟨hm, fun f => by rw [State.frame, hf]; rfl⟩

section
variable (s : State)

theorem State.setMark_framed (f : FrameId) (i : Nat) (m : PocketMark) : Framed s (s.setMark f i m) := by
  refine ⟨rfl, fun g => ?_⟩
  rw [State.setMark, State.frame_setFrame]
  split
  · rename_i e; rw [e]
  · rfl

theorem State.reportRoom_framed (st : Station) : Framed s (s.reportRoom st) := by
  unfold State.reportRoom
  split
  · split
    · exact Framed.of_same
    · exact Framed.refl s
  · exact Framed.refl s

theorem State.releasePocket_framed (f : FrameId) (i : Nat) (h : HeadId) (hf : (s.frame f).state ≠ .close) :
    Framed s (s.releasePocket f i h) := by
  have hm := State.setMark_framed s f i .isOpen
  unfold State.releasePocket
  split
  · refine hm.trans ?_
    simp only
    split
    · rename_i e; rw [hm.frames] at e; exact absurd e hf
    · exact State.reportRoom_framed _ _
    · exact Framed.refl _
  · exact Framed.refl s

theorem State.releaseLeg_framed (h : HeadId) (l : Leg) (hl : ∀ f : FrameId, l.frame = some f → (s.frame f).state ≠ .close) :
    Framed s (s.releaseLeg h l) := by
  unfold State.releaseLeg
  split
  · exact Framed.of_same
  · split
    · exact Framed.of_same
    · exact Framed.refl s
  · split
    · rename_i f e; exact State.releasePocket_framed s f _ _ (hl f e)
    · exact Framed.refl s
  · split
    · rename_i f e; exact State.releasePocket_framed s f _ _ (hl f e)
    · exact Framed.refl s
  · exact Framed.refl s
  · exact Framed.refl s

theorem State.releaseLegs_framed (h : HeadId) (d : List Leg)
    (hd : ∀ l ∈ d, ∀ f : FrameId, l.frame = some f → (s.frame f).state ≠ .close) :
    Framed s (d.foldl (fun s l => s.releaseLeg h l) s) := by
  induction d generalizing s with
  | nil => exact Framed.refl s
  | cons l d ih =>
    have hl := State.releaseLeg_framed s h l (hd l List.mem_cons_self)
    refine hl.trans (ih _ fun m hm f e => ?_)
    rw [hl.frames]
    exact hd m (List.mem_cons_of_mem _ hm) f e

theorem State.rerouteNozzle_framed (h : HeadId) (k : Nozzle) : Framed s (s.rerouteNozzle h k) := by
  unfold State.rerouteNozzle
  split
  · exact Framed.refl s
  · split
    · exact Framed.refl s
    · split
      · exact Framed.refl s
      · exact Framed.of_same

theorem State.reroute_framed : Framed s s.reroute := by
  unfold State.reroute
  split
  · exact Framed.refl s
  · exact (Framed.foldl _ (fun s k => State.rerouteNozzle_framed s .a k) _ s).trans
      (Framed.foldl _ (fun s k => State.rerouteNozzle_framed s .b k) _ _)

theorem State.returnRequest_framed (h : HeadId) (j : Job) : Framed s (s.returnRequest h j) := by
  unfold State.returnRequest
  split
  · exact Framed.refl s
  · split
    · unfold State.unbindReturn
      simp only
      split <;> exact Framed.of_same
    · exact Framed.refl s

theorem State.evaluateSupply_framed : Framed s s.evaluateSupply := by
  unfold State.evaluateSupply
  simp only
  split
  · exact ⟨by simp, fun f => by simp [State.frame]⟩
  · exact Framed.of_same

/-- A frame with a usable pocket is ACTIVE (R136). -/
theorem FrameRecord.active_of_usablePocket {r : FrameRecord} {i : Nat} (h : r.usablePocket = some i) : r.state = .active := by
  unfold FrameRecord.usablePocket at h
  split at h
  · assumption
  · cases h

theorem State.active_of_allocate {c : Fin 8} {f : FrameId} {i : Nat} (h : s.allocate c = some (f, i)) :
    (s.frame f).state = .active := by
  obtain ⟨n, _, hn⟩ := List.exists_of_findSome?_eq_some h
  obtain ⟨g, _, hg⟩ := List.exists_of_findSome?_eq_some hn
  split at hg
  · obtain ⟨j, hj, e⟩ := Option.map_eq_some_iff.1 hg
    cases e
    exact FrameRecord.active_of_usablePocket hj
  · cases hg

/-- A frame that offers an input pocket is ACTIVE (R132). -/
theorem State.active_of_offered {f : FrameId} {i : Nat} (h : s.offered = some (f, i)) : (s.frame f).state = .active := by
  unfold State.offered at h
  split at h
  · cases h
  · simp only at h
    split at h
    · rename_i e _
      obtain ⟨j, _, ej⟩ := Option.map_eq_some_iff.1 h
      cases ej
      exact e
    · cases h

/-- A new leg is for no pocket, or for a pocket of an ACTIVE frame. -/
def Leg.activeIn (l : Leg) (s : State) : Prop := ∀ f : FrameId, l.frame = some f → (s.frame f).state = .active

theorem State.feedLeg_framed (h : HeadId) {t : State} {l : Leg} (e : s.feedLeg h = some (t, l)) :
    Framed s t ∧ l.activeIn t := by
  unfold State.feedLeg at e
  split at e
  · cases e; exact ⟨Framed.of_same, fun f hf => by cases hf⟩
  · split at e
    · rename_i f i n k p hi
      cases e
      refine ⟨State.setMark_framed s _ _ _, fun g hg => ?_⟩
      cases hg
      rw [(State.setMark_framed s _ _ _).frames]
      refine State.active_of_offered s (i := i) ?_
      unfold State.feedInput at hi
      split at hi
      · split at hi
        · cases hi
        · rename_i f' i' ho
          split at hi
          · split at hi
            · obtain ⟨_, _, ek⟩ := Option.map_eq_some_iff.1 hi
              cases ek
              exact ho
            · cases hi
          · cases hi
      · cases hi
    · cases e

theorem State.commitClass_framed (h : HeadId) (k : Nozzle) (u : Handle) (c : Fin 8) :
    Framed s (s.commitClass h k u c).1 ∧ ∀ l ∈ (s.commitClass h k u c).2, l.activeIn (s.commitClass h k u c).1 := by
  unfold State.commitClass
  split
  · exact ⟨Framed.refl s, by simp⟩
  · rename_i f i ha
    have hm := State.setMark_framed s f i (.reserved h)
    have hf : ((s.setMark f i (.reserved h)).frame f).state = .active := (hm.frames f).trans (State.active_of_allocate s ha)
    simp only
    split
    · refine ⟨hm, fun l hl g hg => ?_⟩
      cases hl
      cases hg
      exact hf
    · exact ⟨hm.trans (State.releasePocket_framed _ _ _ _ (by rw [hf]; decide)), by simp⟩

theorem State.commit_framed (h : HeadId) (k : Nozzle) (u : Handle) :
    Framed s (s.commit h k u).1 ∧ ∀ l ∈ (s.commit h k u).2, l.activeIn (s.commit h k u).1 := by
  unfold State.commit
  split
  · exact ⟨Framed.refl s, by simp⟩
  · split
    · exact ⟨Framed.refl s, by simp⟩
    · exact State.commitClass_framed s _ _ _ _
    · split
      · split
        · exact ⟨Framed.of_same, fun l hl g hg => by cases hl; cases hg⟩
        · exact ⟨Framed.refl s, by simp⟩
      · exact (State.commitClass_framed _ _ _ _ _).imp_left (Framed.trans Framed.of_same)

theorem State.sortLeg_framed (h : HeadId) (taken : List Handle) (n : Nat) (out : List Nozzle) :
    Framed s (s.sortLeg h taken n out).1 ∧ ∀ p ∈ (s.sortLeg h taken n out).2, p.2.activeIn (s.sortLeg h taken n out).1 := by
  induction n generalizing s out with
  | zero => exact ⟨Framed.refl s, by simp [State.sortLeg]⟩
  | succ n ih =>
    unfold State.sortLeg
    split
    · exact ⟨Framed.refl s, by simp⟩
    · rename_i k u _
      have hp := State.commit_framed s h k u
      split
      · rename_i e; rw [e] at hp; exact ⟨hp.1, fun p hl => by cases hl; exact hp.2 _ rfl⟩
      · rename_i e; rw [e] at hp; exact (ih _ _).imp_left hp.1.trans

end

end Sys2Proof.Machine
end

section
set_option Elab.async false

namespace Sys2Proof.Machine

/-! ## The choices of the planner and the arbiter -/

/-- A selection, a grant or a preemption: what `Chooses` says, no head is stopped unless in HOLDING, and where no leg is for a
frame in CLOSE no byte of exchange memory is written. -/
structure Selects (s t : State) : Prop where
  chooses : Chooses s t
  awake : s.control.state ≠ .holding →
    t.control.state ≠ .holding ∧ ∀ h : HeadId, (s.head h).state ≠ .stopped → (t.head h).state ≠ .stopped
  opens : s.framesOpen → t.framesOpen ∧ t.mem = s.mem

theorem Selects.trans {s t u : State} (h : Selects s t) (k : Selects t u) : Selects s u :=
  ⟨h.chooses.trans k.chooses,
    fun hd => ⟨(k.awake (h.awake hd).1).1, fun g hg => (k.awake (h.awake hd).1).2 g ((h.awake hd).2 g hg)⟩,
    fun ho => ⟨(k.opens (h.opens ho).1).1, (k.opens (h.opens ho).1).2.trans (h.opens ho).2⟩⟩

/-- Legs dropped and no frame's state changed, no leg is for a frame in CLOSE still. -/
theorem State.framesOpen_of_framed {s t : State} (hf : Framed s t)
    (hl : ∀ h : HeadId, ∀ l ∈ (t.head h).legs, l ∈ (s.head h).legs) (ho : s.framesOpen) : t.framesOpen := by
  intro h l hm f e
  rw [hf.frames]
  exact ho h l (hl h l hm) f e

theorem Aside.selects {s t : State} (h : Aside s t) (hf : s.framesOpen → Framed s t) : Selects s t :=
  ⟨h.chooses, fun hd => ⟨by rwa [h.control], fun g hg => by rwa [h.head]⟩,
    fun ho => ⟨State.framesOpen_of_framed (hf ho) (fun g l hl => by rwa [h.head] at hl) ho, (hf ho).mem⟩⟩

theorem Selects.refl (s : State) : Selects s s := (Aside.refl s).selects fun _ => Framed.refl s

/-- A change of heads, the rail, commands, the device state and messages. -/
theorem Chooses.of_same {s t : State} (hs : t.sites = s.sites := by rfl) (hm : t.mem = s.mem := by rfl)
    (hb : t.board = s.board := by rfl) (hk : t.time = s.time := by rfl) (ha : t.agenda = s.agenda := by rfl)
    (ht : t.trailing = s.trailing := by rfl) (hq : t.planner.requests = s.planner.requests := by rfl) : Chooses s t := by
  have socket : ∀ i, t.socket i = s.socket i := fun i => by rw [State.socket, hs]; rfl
  exact ⟨fun i => by rw [socket], fun _ _ => by rw [hm], hb, hk, State.legEnds_congr ha ht,
    fun x hx => .inl (by rwa [ha, ht] at hx), State.oneRequest_of_same (fun i => by rw [socket]) hq⟩

/-- A change of the rail, commands and messages. -/
theorem Selects.of_same {s t : State} (h : Chooses s t := by exact Chooses.of_same)
    (hc : t.control.state = s.control.state := by rfl) (hh : t.planner.heads = s.planner.heads := by rfl)
    (hf : Framed s t := by exact Framed.of_same) : Selects s t := by
  have head : ∀ k, t.head k = s.head k := fun k => by rw [State.head, hh]; rfl
  exact ⟨h, fun hd => ⟨by rwa [hc], fun g hg => by rwa [head]⟩,
    fun ho => ⟨State.framesOpen_of_framed hf (fun g l hl => by rwa [head] at hl) ho, hf.mem⟩⟩

section
variable (s : State)

/-- A head's record changed: the head not stopped by it, and its legs old ones or for no frame in CLOSE. -/
theorem State.setHead_selects (h : HeadId) (r : HeadRecord) (ha : r.state = .stopped → (s.head h).state = .stopped)
    (hl : ∀ l ∈ r.legs, l ∈ (s.head h).legs ∨ ∀ f : FrameId, l.frame = some f → (s.frame f).state ≠ .close) :
    Selects s (s.setHead h r) := by
  refine ⟨Chooses.of_same, fun hd => ⟨hd, fun g hg => ?_⟩, fun ho => ⟨fun g l hm f e => ?_, rfl⟩⟩
  · rw [State.head_setHead]
    split
    · rename_i e; subst e; exact fun e => hg (ha e)
    · exact hg
  · rw [State.head_setHead] at hm
    split at hm
    · rename_i eg
      subst eg
      exact (hl l hm).elim (fun hm => ho g l hm f e) (fun hn => hn f e)
    · exact ho g l hm f e

/-- A head goes to a state other than STOPPED. -/
theorem State.setHeadState_selects (h : HeadId) (st : HeadState) (hst : st ≠ .stopped) : Selects s (s.setHeadState h st) :=
  State.setHead_selects s h _ (fun e => absurd e hst) fun _ => .inl

theorem State.setFlag_framed (c : AttentionClass) : Framed s (s.setFlag c) := ⟨by simp, fun f => by simp [State.frame]⟩

theorem State.drainTest_selects : Selects s s.drainTest := by
  unfold State.drainTest
  split
  · refine Selects.trans (t := s.setDevice .drained) ⟨Chooses.of_same, fun _ => ⟨by simp [State.setDevice], fun g hg => hg⟩,
      fun ho => ⟨ho, rfl⟩⟩ ?_
    exact (State.setFlag_aside _ .state).selects fun _ => State.setFlag_framed _ .state
  · exact Selects.refl s

theorem State.holdTest_chooses : Chooses s s.holdTest := by
  unfold State.holdTest
  split
  · exact Chooses.trans Chooses.of_same (State.setFlag_aside _ .state).chooses
  · exact Chooses.refl s

theorem State.grantLeg_selects (h : HeadId) (x y : Nat) (iv : Interval) : Selects s (s.grantLeg h x y iv) := by
  unfold State.grantLeg
  simp only
  refine Selects.trans (t := (s.setReserved h (some iv)).setWaiting h none) Selects.of_same
    (Selects.trans (State.setHeadState_selects _ h _ ?_) Selects.of_same)
  split <;> decide

theorem State.regrant_selects (h : HeadId) : Selects s (s.regrant h) := by
  unfold State.regrant
  split
  · exact Selects.refl s
  · split
    · exact State.grantLeg_selects s _ _ _ _
    · exact Selects.refl s

theorem State.grant_selects (h : HeadId) (x y : Nat) (iv : Interval) : Selects s (s.grant h x y iv) :=
  (State.grantLeg_selects s h x y iv).trans (State.regrant_selects _ _)

theorem State.examine_selects (h : HeadId) (l : Leg) : Selects s (s.examine h l).1 := by
  unfold State.examine
  simp only
  split
  · exact State.grant_selects s _ _ _ _
  · exact Selects.of_same

theorem State.giveYield_selects (h : HeadId) : Selects s (s.giveYield h) := by
  unfold State.giveYield
  split
  · exact Selects.refl s
  · refine Selects.trans (State.setHead_selects s h _ (fun e => by cases e) fun l hl => .inr fun f e => ?_)
      (State.examine_selects _ h _)
    rw [List.mem_singleton.1 hl] at e
    cases e

/-! ## A head's legs withdrawn -/

end

/-- The legs in `d` release what they hold, the waiting leg is withdrawn and the bound request goes back: what a dissolution
and a preemption have in common (R72, R74). -/
def State.withdraw (s : State) (h : HeadId) (d : List Leg) : State :=
  let s := (d.foldl (fun s l => s.releaseLeg h l) s).setWaiting h none
  match (s.head h).job with
  | none => s
  | some j => s.returnRequest h j

theorem State.dissolve_eq (s : State) (h : HeadId) (d kept : List Leg) :
    s.dissolve h d kept =
      ((s.withdraw h d).setHead h { (s.withdraw h d).head h with job := none, legs := kept }).reroute := rfl

theorem State.preempt_eq (s : State) (h : HeadId) (o : Offer) :
    s.preempt h o = ((s.withdraw h (s.head h).legs).bindOffer h o).reroute := rfl

section
variable (s : State)

/-- After the waiting leg of the head is withdrawn, side work is left. -/
theorem State.withdraw_aside (h : HeadId) (d : List Leg) :
    Aside ((d.foldl (fun s l => s.releaseLeg h l) s).setWaiting h none) (s.withdraw h d) := by
  unfold State.withdraw
  simp only
  split
  · exact Aside.refl _
  · exact State.returnRequest_aside _ h _

theorem State.withdraw_framed (h : HeadId) (d : List Leg)
    (hd : ∀ l ∈ d, ∀ f : FrameId, l.frame = some f → (s.frame f).state ≠ .close) : Framed s (s.withdraw h d) := by
  refine (State.releaseLegs_framed s h d hd).trans (Framed.trans (t := State.setWaiting _ h none) Framed.of_same ?_)
  unfold State.withdraw
  simp only
  split
  · exact Framed.refl _
  · exact State.returnRequest_framed _ h _

theorem State.withdraw_chooses (h : HeadId) (d : List Leg) : Chooses s (s.withdraw h d) :=
  (State.releaseLegs_aside s h d).chooses.trans (Chooses.trans Chooses.of_same (State.withdraw_aside s h d).chooses)

theorem State.withdraw_control (h : HeadId) (d : List Leg) : (s.withdraw h d).control = s.control :=
  (State.withdraw_aside s h d).control.trans (State.releaseLegs_aside s h d).control

theorem State.withdraw_head (h : HeadId) (d : List Leg) (k : HeadId) : (s.withdraw h d).head k = s.head k :=
  ((State.withdraw_aside s h d).head k).trans ((State.releaseLegs_aside s h d).head k)

theorem State.withdraw_link (h : HeadId) (d : List Leg) : (s.withdraw h d).link = s.link :=
  (State.withdraw_aside s h d).link.trans (State.releaseLegs_aside s h d).link

theorem State.withdraw_rail (h : HeadId) (d : List Leg) :
    (s.withdraw h d).rail = { s.rail with waiting := s.rail.waiting.set h none } := by
  rw [(State.withdraw_aside s h d).rail, State.setWaiting, (State.releaseLegs_aside s h d).rail]

theorem State.withdraw_selects (h : HeadId) (d : List Leg) (hd : ∀ l ∈ d, l ∈ (s.head h).legs) :
    Selects s (s.withdraw h d) := by
  have head := State.withdraw_head s h d
  refine ⟨State.withdraw_chooses s h d, fun hs => ⟨by rwa [State.withdraw_control], fun g hg => by rwa [head]⟩, fun ho => ?_⟩
  have hf := State.withdraw_framed s h d fun l hl => ho h l (hd l hl)
  exact ⟨State.framesOpen_of_framed hf (fun g l hl => by rwa [head] at hl) ho, hf.mem⟩

theorem State.reroute_selects : Selects s s.reroute := (State.reroute_aside s).selects fun _ => State.reroute_framed s

theorem State.dissolve_chooses (h : HeadId) (d kept : List Leg) : Chooses s (s.dissolve h d kept) :=
  (State.withdraw_chooses s h d).trans (Chooses.trans Chooses.of_same (State.reroute_aside _).chooses)

theorem State.dissolve_selects (h : HeadId) (d : List Leg) (hd : ∀ l ∈ d, l ∈ (s.head h).legs) :
    Selects s (s.dissolve h d []) := by
  refine (State.withdraw_selects s h d hd).trans (Selects.trans (State.setHead_selects _ h _ ?_ ?_) (State.reroute_selects _))
  · exact id
  · exact fun l hl => by cases hl

/-! ## The rail arbiter -/

theorem State.mutualWait_selects : Selects s s.mutualWait := by
  unfold State.mutualWait
  simp only
  exact (State.dissolve_selects s _ _ fun _ => id).trans (State.giveYield_selects _ _)

theorem State.actOnBlocker_selects (h : HeadId) : Selects s (s.actOnBlocker h) := by
  unfold State.actOnBlocker
  split
  · exact State.giveYield_selects s _
  · exact State.giveYield_selects s _
  · split
    · exact State.mutualWait_selects s
    · exact Selects.refl s
  · split
    · exact State.mutualWait_selects s
    · exact Selects.refl s
  all_goals exact Selects.refl s

theorem State.submit_selects (h : HeadId) (st : HeadState) (hst : st ≠ .stopped) : Selects s (s.submit h st) := by
  unfold State.submit
  split
  · exact Selects.refl s
  · rename_i l _ _
    refine ((State.setHeadState_selects s h st hst).trans (State.examine_selects _ h l)).trans ?_
    simp only
    split
    · exact Selects.refl _
    · exact State.actOnBlocker_selects _ h

theorem State.settledHead_selects (h : HeadId) : Selects s (s.settledHead h) := by
  unfold State.settledHead
  split
  · exact Selects.refl s
  · split
    · exact State.grant_selects s _ _ _ _
    · exact State.actOnBlocker_selects s _

/-! ## Job selection -/

/-- A site bound to a head, its request taken out of the pending set (R20). -/
theorem State.bindSite_aside (i : Site) (h : HeadId) :
    Aside s ((s.setRequest i none).setSocket i { s.socket i with bound := some h }) := by
  refine ⟨rfl, rfl, rfl, rfl, ⟨[], (List.append_nil _).symm, by simp⟩, fun j => ?_, fun _ _ => rfl, rfl, rfl, rfl,
    fun _ => .inl, State.oneRequest_of_one i (fun j e => by rw [State.socket_setSocket, if_neg e]; rfl)
      (fun j e => (State.request_setRequest s i j none).trans (if_neg e)) (.inr ?_)⟩
  · rw [State.socket_setSocket]
    split
    · rename_i e; rw [e]
    · rfl
  · exact (State.request_setRequest s i i none).trans (if_pos rfl)

/-- A leg of a plan for a request is for no pocket. -/
theorem Plan.legs_frame (p : Plan) (i : Site) {l : Leg} (hl : l ∈ p.legs i) : l.frame = none := by
  unfold Plan.legs at hl
  rcases List.mem_append.1 hl with hl | hl <;>
  · split at hl
    · cases hl
    · rw [List.mem_singleton.1 hl]

/-- A job bound to a head that is not stopped, with legs for no frame in CLOSE, and its first leg submitted. -/
theorem State.bindJob_submit_selects (h : HeadId) (j : Job) (legs : List Leg)
    (hl : ∀ l ∈ legs, ∀ f : FrameId, l.frame = some f → (s.frame f).state ≠ .close) :
    Selects s ((s.bindJob h j legs).submit h .bound) :=
  Selects.trans (State.setHead_selects s h { s.head h with job := some j, legs := legs, binLatch := false } id
    fun l hm => .inr (hl l hm)) (State.submit_selects _ h .bound (by decide))

theorem State.bindOffer_selects (h : HeadId) (o : Offer) : Selects s (s.bindOffer h o) :=
  ((State.bindSite_aside s o.site h).selects fun _ => Framed.of_same).trans
    (State.bindJob_submit_selects _ h _ _ fun l hl f e => by rw [Plan.legs_frame _ _ hl] at e; cases e)

theorem State.settle_selects (h : HeadId) : Selects s (s.settle h) :=
  (State.settledHead_selects s h).trans (State.drainTest_selects _)

theorem State.restHead_selects (h : HeadId) : Selects s (s.restHead h) := by
  unfold State.restHead
  simp only
  split
  · split
    · exact Selects.refl s
    · split
      · exact State.setHeadState_selects s h _ (by decide)
      · exact (State.setHead_selects s h { s.head h with state := .binWait, binLatch := true } (fun e => by cases e)
          fun _ => .inl).trans
          ((State.setFlag_aside _ .bin).selects fun _ => State.setFlag_framed _ .bin)
  · exact State.setHeadState_selects s h _ (by decide)

theorem State.sortLeg_selects (h : HeadId) (taken : List Handle) (n : Nat) (out : List Nozzle) :
    Selects s (s.sortLeg h taken n out).1 :=
  (State.sortLeg_aside s h taken n out).selects fun _ => (State.sortLeg_framed s h taken n out).1

theorem State.bindSort_selects (h : HeadId) : Selects s (s.bindSort h) := by
  unfold State.bindSort
  have hp := State.sortLeg_selects s h [] 4 []
  have hf := (State.sortLeg_framed s h [] 4 []).2
  split
  · rename_i e
    rw [e] at hp hf
    refine hp.trans (State.bindJob_submit_selects _ h _ _ fun l hl f ef => ?_)
    rw [List.mem_singleton.1 hl] at ef
    rw [hf _ rfl f ef]
    decide
  · rename_i e
    rw [e] at hp
    exact hp.trans ((State.restHead_selects _ h).trans (State.settle_selects _ h))

theorem State.evaluateSupply_selects : Selects s s.evaluateSupply :=
  (State.evaluateSupply_aside s).selects fun _ => State.evaluateSupply_framed s

theorem State.selectSupply_selects (h : HeadId) : Selects s (s.selectSupply h) := by
  refine (State.evaluateSupply_selects s).trans ?_
  unfold State.selectSupply
  simp only
  split
  · rename_i e
    split at e
    · have hf := State.feedLeg_framed _ h e
      refine ((State.feedLeg_aside _ h e).selects fun _ => hf.1).trans
        (State.bindJob_submit_selects _ h _ _ fun l hl f ef => ?_)
      rw [List.mem_singleton.1 hl] at ef
      rw [hf.2 f ef]
      decide
    · cases e
  · split
    · exact State.bindSort_selects _ h
    · exact (State.restHead_selects _ h).trans (State.settle_selects _ h)

theorem State.select_selects (h : HeadId) : Selects s (s.select h) := by
  unfold State.select
  split
  · exact Selects.refl s
  · split
    · rename_i hd
      exact ⟨Chooses.trans Chooses.of_same (State.holdTest_chooses _), fun hn => absurd ((State.isIn_iff s _).1 hd) hn,
        fun ho => by
          have hf : Framed s (s.setHeadState h .stopped).holdTest := by
            unfold State.holdTest
            split
            · exact Framed.trans Framed.of_same (State.setFlag_framed _ .state)
            · exact Framed.of_same
          refine ⟨State.framesOpen_of_framed hf (fun g l hl => ?_) ho, hf.mem⟩
          rw [(State.holdTest_still _).legs, State.setHeadState, State.head_setHead] at hl
          split at hl
          · rename_i e; subst e; exact hl
          · exact hl⟩
    · split
      · exact Selects.refl s
      · split
        · exact State.settle_selects s h
        · split
          · exact State.bindSort_selects s h
          · split
            · exact State.bindOffer_selects s h _
            · exact State.selectSupply_selects s h

theorem State.selectResting_selects : Selects s s.selectResting := by
  unfold State.selectResting
  split
  · exact Selects.trans (t := s.firstHead.1) (Selects.of_same (Aside.chooses Aside.of_same))
      ((State.select_selects _ _).trans (State.select_selects _ _))
  · exact State.select_selects s .a
  · exact State.select_selects s .b
  · exact Selects.refl s

theorem State.selectEntered_selects (i : Site) : Selects s (s.selectEntered i) := by
  unfold State.selectEntered
  split
  · exact (State.select_selects s _).trans (State.select_selects _ _)
  · exact State.selectResting_selects s

theorem State.preempt_selects (h : HeadId) (o : Offer) : Selects s (s.preempt h o) :=
  (State.withdraw_selects s h (s.head h).legs fun _ => id).trans ((State.bindOffer_selects _ h o).trans
    (State.reroute_selects _))

theorem State.considerPreemption_selects (i : Site) : Selects s (s.considerPreemption i) := by
  unfold State.considerPreemption
  split
  · split
    · exact Selects.refl s
    · exact State.preempt_selects s _ _
    · exact State.preempt_selects s _ _
    · split <;> exact State.preempt_selects s _ _
  · exact Selects.refl s

theorem State.requestEntered_selects (i : Site) : Selects s (s.requestEntered i) := by
  unfold State.requestEntered
  split
  · exact Selects.refl s
  · exact (State.selectEntered_selects s i).trans (State.considerPreemption_selects _ i)

/-- What asks for a selection is taken as a choice of the planner. -/
theorem State.runTask_selects (x : Task) (hx : x.isSelection = true) : Selects s (s.runTask x) := by
  cases x with
  | entered i => exact State.requestEntered_selects s i
  | selectIdle => exact State.selectResting_selects s
  | selectHead h => exact State.select_selects s h
  | legEnd _ _ | runEntry | drainTest | expiry _ | hostWord _ _ _ => cases hx

/-! ## A job's course, hold, halt and CLOSE -/

theorem State.restAfterJob_chooses (h : HeadId) : Chooses s (s.restAfterJob h) := by
  unfold State.restAfterJob
  split
  · exact Chooses.trans Chooses.of_same (State.select_selects _ h).chooses
  · exact Chooses.trans Chooses.of_same (State.holdTest_chooses _)

theorem State.endJob_chooses (h : HeadId) : Chooses s (s.endJob h) :=
  Chooses.trans Chooses.of_same ((State.reroute_aside _).chooses.trans (State.restAfterJob_chooses _ h))

theorem State.dissolveAtEnd_chooses (h : HeadId) (d : List Leg) : Chooses s (s.dissolveAtEnd h d) :=
  (State.dissolve_chooses s h d []).trans (State.restAfterJob_chooses _ h)

theorem State.nextLeg_chooses (h : HeadId) (l : Leg) : Chooses s (s.nextLeg h l) :=
  Chooses.trans Chooses.of_same (State.submit_selects _ h .railWait (by decide)).chooses

theorem State.feedNext_chooses (h : HeadId) (n : Nat) : Chooses s (s.feedNext h n) := by
  unfold State.feedNext
  split
  · exact State.endJob_chooses s h
  · refine (State.evaluateSupply_aside s).chooses.trans ?_
    simp only
    split
    · rename_i e
      exact (State.feedLeg_aside _ h e).chooses.trans (State.nextLeg_chooses _ h _)
    · exact State.endJob_chooses _ h

theorem State.sortNext_chooses (h : HeadId) (j : Job) : Chooses s (s.sortNext h j) := by
  unfold State.sortNext
  have hp := (State.sortLeg_aside s h j.taken 4 []).chooses
  split
  · rename_i e
    rw [e] at hp
    exact hp.trans (Chooses.trans Chooses.of_same (State.nextLeg_chooses _ h _))
  · rename_i e
    rw [e] at hp
    exact hp.trans (State.endJob_chooses _ h)

theorem State.legEnded_chooses (h : HeadId) (ok : Bool) : Chooses s (s.legEnded h ok) := by
  unfold State.legEnded
  simp only
  split
  · exact Chooses.refl s
  · rename_i j _
    refine Chooses.trans (t := s.setHead h
      { s.head h with job := some { j with legsDone := j.legsDone + 1 }, legs := (s.head h).legs.tail }) Chooses.of_same ?_
    split
    · exact State.dissolveAtEnd_chooses _ h _
    · split
      · exact State.feedNext_chooses _ h _
      · exact State.sortNext_chooses _ h _
      · split
        · split
          · exact State.nextLeg_chooses _ h _
          · exact State.endJob_chooses _ h
        · exact State.endJob_chooses _ h
      all_goals exact State.endJob_chooses _ h

theorem State.legArrived_chooses (h : HeadId) : Chooses s (s.legArrived h) := by
  unfold State.legArrived
  split
  · exact Chooses.refl s
  · split
    · exact Chooses.of_same
    · split
      · exact State.dissolveAtEnd_chooses s h _
      · split
        · split
          · exact Chooses.of_same
          · split
            · exact Chooses.of_same
            · exact State.dissolveAtEnd_chooses s h _
        · exact Chooses.of_same
    · exact State.endJob_chooses s h

theorem State.travelEnded_chooses (h : HeadId) (x y : Nat) : Chooses s (s.travelEnded h x y) :=
  Chooses.trans (t := s.setReserved h (some ⟨x, x⟩)) Chooses.of_same ((State.regrant_selects _ h.other).chooses.trans
    (Chooses.trans (t := State.setHead _ h _) Chooses.of_same
      ((State.holdTest_chooses _).trans (State.legArrived_chooses _ h))))

theorem State.takeArrived_chooses (h : HeadId) : Chooses s (s.takeArrived h) := by
  unfold State.takeArrived
  split
  · simp only
    split
    · exact Chooses.of_same
    · exact Chooses.trans (t := s.setCommand h .empty) Chooses.of_same (State.travelEnded_chooses _ h _ _)
  · exact Chooses.refl s

theorem State.holdHead_chooses (h : HeadId) : Chooses s (s.holdHead h) := by
  unfold State.holdHead
  split
  · exact Chooses.trans Chooses.of_same (State.holdTest_chooses _)
  · exact Chooses.trans Chooses.of_same (State.holdTest_chooses _)
  · exact State.dissolveAtEnd_chooses s h _
  · exact State.dissolveAtEnd_chooses s h _
  · exact State.dissolveAtEnd_chooses s h _
  all_goals exact Chooses.refl s

theorem State.enterHolding_chooses (auto : Bool) : Chooses s (s.enterHolding auto) := by
  refine Chooses.trans (t := s.setDevice .holding) Chooses.of_same ?_
  unfold State.enterHolding
  simp only
  split
  · exact (State.setFlag_aside _ .state).chooses.trans ((State.holdHead_chooses _ .a).trans ((State.holdHead_chooses _ .b).trans
      (State.holdTest_chooses _)))
  · exact (State.holdHead_chooses _ .a).trans ((State.holdHead_chooses _ .b).trans (State.holdTest_chooses _))

theorem State.haltHead_chooses (h : HeadId) : Chooses s (s.haltHead h) :=
  (State.dissolve_chooses s h _ _).trans Chooses.of_same

theorem State.enterHalted_chooses : Chooses s s.enterHalted :=
  Chooses.trans (t := { s with control := { s.control with state := .halted, holdAck := false } }) Chooses.of_same
    ((State.setFlag_aside _ .state).chooses.trans (Chooses.trans Chooses.of_same
      ((State.haltHead_chooses _ .a).trans (State.haltHead_chooses _ .b))))

theorem State.closeHead_chooses (f : FrameId) (h : HeadId) : Chooses s (s.closeHead f h) := by
  unfold State.closeHead
  simp only
  split
  · exact (State.dissolve_chooses s h _ _).trans (Chooses.trans Chooses.of_same (State.push_aside _ _ rfl).chooses)
  · exact Chooses.refl s

theorem State.closeFrame_chooses (f : FrameId) : Chooses s (s.closeFrame f) := by
  unfold State.closeFrame
  split
  · exact (State.setFrame_aside s f _).chooses.trans ((State.closeHead_chooses _ f .a).trans
      ((State.closeHead_chooses _ f .b).trans (State.closedTest_aside _ f).chooses))
  · exact Chooses.refl s

end

end Sys2Proof.Machine
end

section
set_option Elab.async false

namespace Sys2Proof.Machine

/-! ## What is kept of each head (R56, R64, R74, R125) -/

/-- What law 11 and the rule of heads at rest say of one head; the latter under the premise `P`, so that law 11 can be
followed alone. -/
structure HeadRight (P : Prop) (s : State) (h : HeadId) : Prop where
  flight : s.link.get h ≠ .empty → (s.head h).state.inFlight = true ∨ s.control.state = .halted
  waiting : s.rail.waiting.get h ≠ none → (s.head h).state = .bound ∨ (s.head h).state = .railWait
  held : s.control.state = .held → (s.head h).state = .stopped
  resting : P → s.control.state ≠ .halted →
    (s.head h).state = .stopped ∨ (s.head h).state = .idle ∨ (s.head h).state = .binWait → (s.head h).legs = []
  drained : P → s.control.state = .drained → (s.head h).state = .idle

/-- What is kept within a command too: each head is right, at most one leg end waits in line, and its head is still in flight
with its command already answered. -/
structure Course (P : Prop) (s : State) : Prop where
  heads : ∀ h : HeadId, HeadRight P s h
  once : s.legEnds.length ≤ 1
  ends : ∀ (h : HeadId) (ok : Bool), Task.legEnd h ok ∈ s.legEnds → s.link.get h = .empty ∧ (s.head h).state.inFlight = true

/-- A head whose state may be changed: no command of it runs, but for one left over in HALTED, and no leg end of it waits. -/
def State.landed (s : State) (h : HeadId) : Prop :=
  (s.link.get h = .empty ∨ s.control.state = .halted) ∧ ∀ ok : Bool, Task.legEnd h ok ∉ s.legEnds

/-- Only one head moves. -/
structure Only (h : HeadId) (s t : State) : Prop where
  control : t.control.state = s.control.state
  state : (t.head h.other).state = (s.head h.other).state
  legs : (t.head h.other).legs = (s.head h.other).legs
  link : t.link.get h.other = s.link.get h.other
  waiting : t.rail.waiting.get h.other = s.rail.waiting.get h.other
  ends : t.legEnds = s.legEnds

theorem HeadId.eq_or_eq_other (h k : HeadId) : k = h ∨ k = h.other := by cases h <;> cases k <;> decide

theorem Only.trans {h : HeadId} {s t u : State} (a : Only h s t) (b : Only h t u) : Only h s u :=
  ⟨b.control.trans a.control, b.state.trans a.state, b.legs.trans a.legs, b.link.trans a.link, b.waiting.trans a.waiting,
    b.ends.trans a.ends⟩

theorem Aside.only {s t : State} (a : Aside s t) (h : HeadId) : Only h s t :=
  ⟨by rw [a.control], by rw [a.head], by rw [a.head], by rw [a.link], by rw [a.rail], a.ends⟩

theorem HeadState.not_bound_of_inFlight {st : HeadState} (h : st.inFlight = true) : ¬(st = .bound ∨ st = .railWait) := by
  rintro (e | e) <;> rw [e] at h <;> cases h

theorem HeadState.ne_of_inFlight {st st' : HeadState} (h : st.inFlight = true) (h' : st'.inFlight = false) : st ≠ st' := by
  rintro rfl
  rw [h] at h'
  cases h'

section
variable {P : Prop} {s t : State} {h : HeadId}

theorem State.landed.of_only {k : HeadId} (l : s.landed k.other) (o : Only k s t) : t.landed k.other := by
  unfold State.landed
  rw [o.link, o.control, o.ends]
  exact l

theorem State.landed.of_aside (l : s.landed h) (a : Aside s t) : t.landed h := by
  unfold State.landed
  rw [a.link, a.control, a.ends]
  exact l

/-- A change in which nothing of the heads moves keeps the course. -/
theorem Course.still (c : Course P s) (k : Still s t) : Course P t := by
  have halted : s.control.state = .halted → t.control.state = .halted := fun e => by
    rcases k.device with f | ⟨f, _⟩ | ⟨f, _⟩
    · rw [f, e]
    · rw [e] at f; cases f
    · rw [e] at f; cases f
  refine ⟨fun g => ?_, by rw [k.ends]; exact c.once, fun g ok hm => ?_⟩
  · obtain ⟨hf, hw, hh, hr, hd⟩ := c.heads g
    refine ⟨fun e => ?_, fun e => ?_, fun e => ?_, fun p e q => ?_, fun p e => ?_⟩
    · rw [k.state]
      exact (hf (by rwa [k.link] at e)).imp_right halted
    · rw [k.state]
      exact hw (by rwa [k.waiting] at e)
    · rw [k.state]
      rcases k.device with f | ⟨_, _, f⟩ | ⟨_, f, _⟩
      · exact hh (f.symm.trans e)
      · exact f g
      · rw [f] at e; cases e
    · rw [k.state] at q
      rw [k.legs]
      exact hr p (fun e' => e (halted e')) q
    · rw [k.state]
      rcases k.device with f | ⟨_, f, _⟩ | ⟨_, _, f⟩
      · exact hd p (f.symm.trans e)
      · rw [f] at e; cases e
      · exact f g
  · rw [k.ends] at hm
    rw [k.link, k.state]
    exact c.ends g ok hm

/-- One head moved rightly keeps the course. -/
theorem Course.only (c : Course P s) (o : Only h s t) (r : HeadRight P t h)
    (e : ∀ ok : Bool, Task.legEnd h ok ∈ s.legEnds → t.link.get h = .empty ∧ (t.head h).state.inFlight = true) :
    Course P t := by
  refine ⟨fun g => ?_, by rw [o.ends]; exact c.once, fun g ok hm => ?_⟩
  · rcases HeadId.eq_or_eq_other h g with rfl | rfl
    · exact r
    · obtain ⟨hf, hw, hh, hr, hd⟩ := c.heads h.other
      refine ⟨?_, ?_, ?_, ?_, ?_⟩
      · rw [o.link, o.state, o.control]; exact hf
      · rw [o.waiting, o.state]; exact hw
      · rw [o.control, o.state]; exact hh
      · rw [o.control, o.state, o.legs]; exact hr
      · rw [o.control, o.state]; exact hd
  · rw [o.ends] at hm
    rcases HeadId.eq_or_eq_other h g with rfl | rfl
    · exact e ok hm
    · rw [o.link, o.state]
      exact c.ends _ ok hm

/-- One landed head moved rightly keeps the course. -/
theorem Course.move (c : Course P s) (o : Only h s t) (l : s.landed h) (r : HeadRight P t h) : Course P t :=
  c.only o r fun ok hm => absurd hm (l.2 ok)

theorem Course.landed (c : Course P s) (hf : (s.head h).state.inFlight = false) : s.landed h := by
  refine ⟨?_, fun ok hm => ?_⟩
  · by_contra hn
    rw [not_or] at hn
    rcases (c.heads h).flight hn.1 with e | e
    · rw [e] at hf; cases hf
    · exact hn.2 e
  · rw [(c.ends h ok hm).2] at hf; cases hf

theorem Course.not_waiting (c : Course P s) (hb : ¬((s.head h).state = .bound ∨ (s.head h).state = .railWait)) :
    s.rail.waiting.get h = none := by
  by_contra hn
  exact hb ((c.heads h).waiting hn)

theorem Course.not_inFlight_of_waiting (c : Course P s) (hw : s.rail.waiting.get h ≠ none) :
    (s.head h).state.inFlight = false := by
  rcases (c.heads h).waiting hw with e | e <;> rw [e] <;> rfl

/-- A change of the device state to one that asks nothing of the heads. -/
theorem Course.control (c : Course P s) {k : Control} (hh : s.control.state = .halted → k.state = .halted) (h1 : k.state ≠ .held)
    (h2 : k.state ≠ .drained) : Course P { s with control := k } := by
  refine ⟨fun g => ?_, c.once, c.ends⟩
  obtain ⟨hf, hw, _, hr, _⟩ := c.heads g
  exact ⟨fun e => (hf e).imp_right hh, hw, fun e => absurd e h1, fun p e => hr p fun e' => e (hh e'), fun _ e => absurd e h2⟩

theorem State.working_iff : s.working = true ↔ s.control.state = .run ∨ s.control.state = .draining := by
  simp [State.working, State.isIn]

theorem State.working_of_control (hc : t.control.state = s.control.state) (hw : s.working = true) : t.working = true := by
  rw [State.working_iff] at hw ⊢
  rwa [hc]

theorem State.working_ne (hw : s.working = true) {d : DeviceState} (h1 : d ≠ .run) (h2 : d ≠ .draining) :
    s.control.state ≠ d := by
  rintro rfl
  rcases State.working_iff.1 hw with e | e
  · exact h1 e
  · exact h2 e

/-- In RUN and DRAINING little is asked of a head that is not at rest. -/
theorem HeadRight.of_working (hw : s.working = true)
    (hf : s.link.get h ≠ .empty → (s.head h).state.inFlight = true)
    (hq : s.rail.waiting.get h ≠ none → (s.head h).state = .bound ∨ (s.head h).state = .railWait)
    (hr : P → (s.head h).state = .stopped ∨ (s.head h).state = .idle ∨ (s.head h).state = .binWait → (s.head h).legs = []) :
    HeadRight P s h :=
  ⟨fun e => .inl (hf e), hq, fun e => absurd e (State.working_ne hw (by decide) (by decide)), fun p _ => hr p,
    fun _ e => absurd e (State.working_ne hw (by decide) (by decide))⟩

/-- A landed head has no command in RUN and DRAINING. -/
theorem State.landed.link (l : s.landed h) (hw : s.working = true) : s.link.get h = .empty :=
  l.1.resolve_right (State.working_ne hw (by decide) (by decide))

/-! ## One head's record changed -/

theorem State.setHead_only (r : HeadRecord) : Only h s (s.setHead h r) := by
  have e : (s.setHead h r).head h.other = s.head h.other := by simp [State.head_setHead]
  exact ⟨rfl, by rw [e], by rw [e], rfl, rfl, rfl⟩

theorem State.setHeadState_only (st : HeadState) : Only h s (s.setHeadState h st) := State.setHead_only _

theorem State.setHeadState_state (st : HeadState) : ((s.setHeadState h st).head h).state = st := by
  simp [State.setHeadState]

theorem State.setHeadState_legs (st : HeadState) : ((s.setHeadState h st).head h).legs = (s.head h).legs := by
  simp [State.setHeadState]

theorem State.setCommand_only (r : CommandRecord) : Only h s (s.setCommand h r) :=
  ⟨rfl, rfl, rfl, Pair.get_other_set _ _ _, rfl, rfl⟩

theorem State.setWaiting_only (w : Option WaitingLeg) : Only h s (s.setWaiting h w) :=
  ⟨rfl, rfl, rfl, rfl, Pair.get_other_set _ _ _, rfl⟩

theorem State.startAct_only (k : Nozzle) (a : Action) : Only h s (s.startAct h k a) :=
  Only.trans (t := s.sendAct h k a 1) ⟨rfl, rfl, rfl, Pair.get_other_set _ _ _, rfl, rfl⟩ (State.setHeadState_only _)

theorem State.grantLeg_only (x y : Nat) (iv : Interval) : Only h s (s.grantLeg h x y iv) := by
  unfold State.grantLeg
  simp only
  refine Only.trans (t := (s.setReserved h (some iv)).setWaiting h none) ⟨rfl, rfl, rfl, rfl, Pair.get_other_set _ _ _, rfl⟩
    (Only.trans (State.setHeadState_only _) ⟨rfl, rfl, rfl, Pair.get_other_set _ _ _, rfl, rfl⟩)

theorem State.grantLeg_inFlight (x y : Nat) (iv : Interval) : ((s.grantLeg h x y iv).head h).state.inFlight = true := by
  have e : ((s.grantLeg h x y iv).head h).state =
      if ((s.setReserved h (some iv)).setWaiting h none).isYielding h = true then .yielding else .moving :=
    State.setHeadState_state _
  rw [e]
  split <;> rfl

theorem State.grantLeg_waiting (x y : Nat) (iv : Interval) : (s.grantLeg h x y iv).rail.waiting.get h = none :=
  Pair.get_set_self _ _ _

/-! ## The rail arbiter -/

theorem Course.grantLeg (c : Course P s) (hw : s.working = true) (l : s.landed h) (x y : Nat) (iv : Interval) :
    Course P (s.grantLeg h x y iv) := by
  have f := State.grantLeg_inFlight (s := s) (h := h) x y iv
  refine c.move (State.grantLeg_only x y iv) l (HeadRight.of_working hw (fun _ => f)
    (fun e => absurd (State.grantLeg_waiting x y iv) e) fun _ e => ?_)
  rcases e with e | e | e <;> rw [e] at f <;> cases f

theorem Course.regrant (c : Course P s) (h : HeadId) : Course P (s.regrant h) := by
  unfold State.regrant
  split
  · exact c
  · rename_i w hq
    split
    · rename_i hc
      rw [Bool.and_eq_true] at hc
      exact c.grantLeg hc.1 (c.landed (c.not_inFlight_of_waiting (by rw [hq]; simp))) _ _ _
    · exact c

theorem Course.grant (c : Course P s) (hw : s.working = true) (l : s.landed h) (x y : Nat) (iv : Interval) :
    Course P (s.grant h x y iv) := (c.grantLeg hw l x y iv).regrant h.other

theorem Course.examine (c : Course P s) (hb : (s.head h).state = .bound ∨ (s.head h).state = .railWait) (l : Leg) :
    Course P (s.examine h l).1 := by
  have hn : (s.head h).state.inFlight = false := by rcases hb with e | e <;> rw [e] <;> rfl
  unfold State.examine
  simp only
  split
  · rename_i hc
    rw [Bool.and_eq_true] at hc
    exact c.grant hc.1 (c.landed hn) _ _ _
  · obtain ⟨hf, _, hh, hr, hd⟩ := c.heads h
    exact c.move (State.setWaiting_only _) (c.landed hn) ⟨hf, fun _ => hb, hh, hr, hd⟩

/-- A leg that is not granted waits. -/
theorem State.examine_waits (l : Leg) (hg : (s.examine h l).2 = false) :
    (s.examine h l).1.control = s.control ∧ (s.examine h l).1.rail.waiting.get h ≠ none := by
  unfold State.examine at hg ⊢
  simp only at hg ⊢
  split at hg
  · cases hg
  · rename_i hc
    rw [if_neg hc]
    exact ⟨rfl, by simp [State.setWaiting]⟩

theorem Course.giveYield (c : Course P s) (hw : s.working = true) (hn : (s.head h).state.inFlight = false) :
    Course P (s.giveYield h) := by
  unfold State.giveYield
  split
  · exact c
  · refine Course.examine (c.move (State.setHead_only _) (c.landed hn) (HeadRight.of_working hw ?_ ?_ ?_)) ?_ _
    · exact fun e => absurd ((c.landed hn).link hw) e
    · exact fun _ => .inl (by rw [State.head_setHead_self])
    · rw [State.head_setHead_self]
      rintro _ (e | e | e) <;> cases e
    · exact .inl (by rw [State.head_setHead_self])

/-! ## A head's legs withdrawn -/

theorem State.withdraw_only (d : List Leg) : Only h s (s.withdraw h d) :=
  ((State.releaseLegs_aside s h d).only h).trans ((State.setWaiting_only none).trans ((State.withdraw_aside s h d).only h))

theorem State.withdraw_waiting (d : List Leg) : (s.withdraw h d).rail.waiting.get h = none := by
  rw [State.withdraw_rail]
  exact Pair.get_set_self _ _ _

theorem Course.withdraw (c : Course P s) (h : HeadId) (d : List Leg) : Course P (s.withdraw h d) := by
  obtain ⟨hf, _, hh, hr, hd⟩ := c.heads h
  refine c.only (State.withdraw_only d) ⟨?_, fun e => absurd (State.withdraw_waiting d) e, ?_, ?_, ?_⟩ fun ok hm => ?_
  · rw [State.withdraw_link, State.withdraw_head, State.withdraw_control]; exact hf
  · rw [State.withdraw_head, State.withdraw_control]; exact hh
  · rw [State.withdraw_head, State.withdraw_control]; exact hr
  · rw [State.withdraw_head, State.withdraw_control]; exact hd
  · rw [State.withdraw_link, State.withdraw_head]; exact c.ends h ok hm

/-- The head's legs replaced by none, or by those in flight at a halt. -/
theorem Course.setLegs (c : Course P s) {r : HeadRecord} (hs : r.state = (s.head h).state)
    (hk : r.legs = [] ∨ s.control.state = .halted ∨ r.state.inFlight = true) : Course P (s.setHead h r) := by
  obtain ⟨hf, hw, hh, _, hd⟩ := c.heads h
  refine c.only (State.setHead_only _) ⟨?_, ?_, ?_, fun _ e q => ?_, ?_⟩ fun ok hm => ?_ <;>
    simp only [State.head_setHead_self, hs]
  · exact hf
  · exact hw
  · exact hh
  · rcases hk with hk | hk | hk
    · exact hk
    · exact absurd hk e
    · rw [State.head_setHead_self] at q
      rcases q with q | q | q <;> rw [q] at hk <;> cases hk
  · exact hd
  · exact c.ends h ok hm

theorem Course.dissolve (c : Course P s) (h : HeadId) (d kept : List Leg) (hk : kept = [] ∨ s.control.state = .halted) :
    Course P (s.dissolve h d kept) := by
  rw [State.dissolve_eq]
  refine Course.still ((c.withdraw h d).setLegs (r := { (s.withdraw h d).head h with job := none, legs := kept }) rfl ?_)
    (State.reroute_still _)
  rw [State.withdraw_control]
  exact hk.imp_right .inl

theorem State.dissolve_aside (d kept : List Leg) :
    Aside ((s.withdraw h d).setHead h { s.head h with job := none, legs := kept }) (s.dissolve h d kept) := by
  rw [State.dissolve_eq, State.withdraw_head]
  exact State.reroute_aside _

theorem State.dissolve_head (d kept : List Leg) : (s.dissolve h d kept).head h = { s.head h with job := none, legs := kept } := by
  rw [(State.dissolve_aside d kept).head, State.head_setHead_self]

theorem State.dissolve_control (d kept : List Leg) : (s.dissolve h d kept).control = s.control :=
  (State.dissolve_aside d kept).control.trans (State.withdraw_control s h d)

theorem State.dissolve_waiting (d kept : List Leg) : (s.dissolve h d kept).rail.waiting.get h = none := by
  rw [(State.dissolve_aside d kept).rail]
  exact State.withdraw_waiting d

theorem State.landed.dissolve (l : s.landed h) (d kept : List Leg) : (s.dissolve h d kept).landed h := by
  refine State.landed.of_aside ?_ (State.dissolve_aside d kept)
  unfold State.landed at l ⊢
  rw [State.setHead_link, State.withdraw_link, State.setHead_control, State.withdraw_control,
    (State.setHead_only _).ends, (State.withdraw_only d).ends]
  exact l

theorem Course.mutualWait (c : Course P s) (hw : s.working = true) (hq : ∀ h : HeadId, s.rail.waiting.get h ≠ none) :
    Course P s.mutualWait := by
  unfold State.mutualWait
  simp only
  generalize (if s.jobLevel .a < s.jobLevel .b then HeadId.a else HeadId.b) = y
  refine (c.dissolve y _ [] (.inl rfl)).giveYield (State.working_of_control (by rw [State.dissolve_control]) hw) ?_
  rw [State.dissolve_head]
  exact c.not_inFlight_of_waiting (hq y)

theorem Course.actOnBlocker (c : Course P s) (hw : s.working = true) (hq : s.rail.waiting.get h ≠ none) :
    Course P (s.actOnBlocker h) := by
  have both : (s.rail.waiting.get h.other).isSome = true → ∀ k : HeadId, s.rail.waiting.get k ≠ none := fun e k => by
    rcases HeadId.eq_or_eq_other h k with rfl | rfl
    · exact hq
    · exact Option.isSome_iff_ne_none.1 e
  unfold State.actOnBlocker
  split
  · rename_i e; exact c.giveYield hw (by rw [e]; rfl)
  · rename_i e; exact c.giveYield hw (by rw [e]; rfl)
  · split
    · rename_i e; exact c.mutualWait hw (both e)
    · exact c
  · split
    · rename_i e; exact c.mutualWait hw (both e)
    · exact c
  all_goals exact c

/-- A leg submitted by a head that has taken its waiting state. -/
theorem Course.submit {st : HeadState} (c : Course P (s.setHeadState h st)) (hw : s.working = true)
    (hst : st = .bound ∨ st = .railWait) (hl : (s.head h).legs ≠ []) : Course P (s.submit h st) := by
  unfold State.submit
  split
  · rename_i e; exact absurd e hl
  · rename_i l _ _
    have ce := c.examine (by rwa [State.setHeadState_state]) l
    simp only
    split
    · exact ce
    · rename_i hg
      have hx := State.examine_waits l (Bool.eq_false_iff.2 hg)
      exact ce.actOnBlocker (State.working_of_control (by rw [hx.1]; rfl) hw) hx.2

theorem Course.settledHead (c : Course P s) (hw : s.working = true) (h : HeadId) : Course P (s.settledHead h) := by
  unfold State.settledHead
  split
  · exact c
  · rename_i w hq
    have hq' : s.rail.waiting.get h.other ≠ none := by rw [hq]; simp
    split
    · exact c.grant hw (c.landed (c.not_inFlight_of_waiting hq')) _ _ _
    · exact c.actOnBlocker hw hq'

/-! ## Job selection -/

/-- A landed head takes a waiting state with a record of its own. -/
theorem Course.wait (c : Course P s) (hw : s.working = true) (l : s.landed h) (r : HeadRecord) {st : HeadState}
    (hst : st = .bound ∨ st = .railWait) : Course P ((s.setHead h r).setHeadState h st) := by
  refine c.move ((State.setHead_only _).trans (State.setHeadState_only _)) l (HeadRight.of_working hw ?_ ?_ ?_) <;>
    rw [State.setHeadState_state]
  · exact fun e => absurd (l.link hw) e
  · exact fun _ => hst
  · rintro _ (rfl | rfl | rfl) <;> rcases hst with e | e <;> cases e

theorem Course.bindJob_submit (c : Course P s) (hw : s.working = true) (l : s.landed h) (j : Job) {legs : List Leg}
    (hl : legs ≠ []) : Course P ((s.bindJob h j legs).submit h .bound) :=
  Course.submit (c.wait hw l _ (.inl rfl)) hw (.inl rfl) (by simpa [State.bindJob] using hl)

theorem State.isResting_iff : s.isResting h = true ↔ (s.head h).state = .idle ∨ (s.head h).state = .binWait := by
  simp [State.isResting]

theorem State.resting_not_inFlight (hr : s.isResting h = true) : (s.head h).state.inFlight = false := by
  rcases State.isResting_iff.1 hr with e | e <;> rw [e] <;> rfl

theorem Course.resting_legs (c : Course P s) (p : P) (hh : s.control.state ≠ .halted) (hr : s.isResting h = true) :
    (s.head h).legs = [] := (c.heads h).resting p hh (.inr (State.isResting_iff.1 hr))

theorem Course.resting_not_waiting (c : Course P s) (hr : s.isResting h = true) : s.rail.waiting.get h = none := by
  refine c.not_waiting ?_
  rintro (e | e) <;> rcases State.isResting_iff.1 hr with f | f <;> rw [e] at f <;> cases f

/-- A resting head goes to another resting state. -/
theorem Course.rest (c : Course P s) (hw : s.working = true) (hr : s.isResting h = true) {r : HeadRecord}
    (hl : r.legs = (s.head h).legs) : Course P (s.setHead h r) := by
  have l := c.landed (State.resting_not_inFlight hr)
  refine c.move (State.setHead_only _) l (HeadRight.of_working hw (fun e => absurd (l.link hw) e)
    (fun e => absurd (c.resting_not_waiting hr) e) fun p _ => ?_)
  rw [State.head_setHead_self, hl]
  exact c.resting_legs p (State.working_ne hw (by decide) (by decide)) hr

theorem Course.restHead (c : Course P s) (hw : s.working = true) (hr : s.isResting h = true) : Course P (s.restHead h) := by
  unfold State.restHead
  simp only
  split
  · split
    · exact c
    · split
      · exact c.rest hw hr rfl
      · exact Course.still (c.rest hw hr (r := { s.head h with state := .binWait, binLatch := true }) rfl) (State.setFlag_still _ .bin)
  · exact c.rest hw hr rfl

theorem State.restHead_control : (s.restHead h).control = s.control := by
  unfold State.restHead
  simp only
  split
  · split
    · rfl
    · split
      · rfl
      · exact State.setFlag_control _ _
  · rfl

/-- Case 6 of R67 and what follows it. -/
theorem Course.restHead_settle (c : Course P s) (hw : s.working = true) (hr : s.isResting h = true) :
    Course P ((s.restHead h).settle h) :=
  Course.still ((c.restHead hw hr).settledHead (State.working_of_control (by rw [State.restHead_control]) hw) h)
    (State.drainTest_still _)

theorem State.isResting_of_head (e : t.head h = s.head h) (hr : s.isResting h = true) : t.isResting h = true := by
  rw [State.isResting_iff] at hr ⊢
  rwa [e]

theorem Course.bindSort (c : Course P s) (hw : s.working = true) (hr : s.isResting h = true) : Course P (s.bindSort h) := by
  have a := State.sortLeg_aside s h [] 4 []
  unfold State.bindSort
  split
  · rename_i e
    rw [e] at a
    exact (c.still a.still).bindJob_submit (State.working_of_control (by rw [a.control]) hw)
      ((c.landed (State.resting_not_inFlight hr)).of_aside a) _ (by simp)
  · rename_i e
    rw [e] at a
    exact (c.still a.still).restHead_settle (State.working_of_control (by rw [a.control]) hw)
      (State.isResting_of_head (a.head h) hr)

theorem Course.bindOffer (c : Course P s) (hw : s.working = true) (hn : (s.head h).state.inFlight = false) (o : Offer) :
    Course P (s.bindOffer h o) := by
  have a := State.bindSite_aside s o.site h
  have c' := c.still a.still
  by_cases hl : o.plan.legs o.site = []
  · have e : s.bindOffer h o = ((s.setRequest o.site none).setSocket o.site { s.socket o.site with bound := some h }).bindJob h
        { kind := o.plan.kind, site := some o.site, level := o.plan.level, raised := o.raised,
          pickNozzle := o.plan.pick.map Prod.fst, placeNozzle := o.plan.place.map (·.nozzle), taken := [], legsDone := 0 }
        (o.plan.legs o.site) := by
      unfold State.bindOffer State.submit
      simp only
      split
      · rfl
      · rename_i e; simp [State.bindJob, hl] at e
    rw [e]
    exact c'.setLegs rfl (.inl hl)
  · exact c'.bindJob_submit hw (State.landed.of_aside (c.landed hn) a) _ hl

theorem Course.selectSupply (c : Course P s) (hw : s.working = true) (hr : s.isResting h = true) :
    Course P (s.selectSupply h) := by
  have a := State.evaluateSupply_aside s
  have c' := c.still a.still
  have hw' : s.evaluateSupply.working = true := State.working_of_control (by rw [a.control]) hw
  have hr' : s.evaluateSupply.isResting h = true := State.isResting_of_head (a.head h) hr
  unfold State.selectSupply
  simp only
  split
  · rename_i e
    split at e
    · have b := State.feedLeg_aside _ h e
      exact (c'.still b.still).bindJob_submit (State.working_of_control (by rw [b.control]) hw')
        ((c'.landed (State.resting_not_inFlight hr')).of_aside b) _ (by simp)
    · cases e
  · split
    · exact c'.bindSort hw' hr'
    · exact c'.restHead_settle hw' hr'

/-- A head without legs stopped, outside DRAINED (R64, R76). -/
theorem Course.stop (c : Course P s) (l : s.landed h) (hq : s.rail.waiting.get h = none)
    (hl : P → s.control.state ≠ .halted → (s.head h).legs = []) (hd : P → s.control.state ≠ .drained) :
    Course P (s.setHeadState h .stopped) := by
  refine c.move (State.setHeadState_only _) l ⟨fun e => .inr (l.1.resolve_left e), fun e => absurd hq e,
    fun _ => State.setHeadState_state _, fun p e _ => ?_, fun p e => absurd e (hd p)⟩
  rw [State.setHeadState_legs]
  exact hl p e

/-- A head at rest stopped, outside DRAINED. -/
theorem Course.stopResting (c : Course P s) (hd : s.control.state ≠ .drained) (hr : s.isResting h = true) :
    Course P (s.setHeadState h .stopped) :=
  c.stop (c.landed (State.resting_not_inFlight hr)) (c.resting_not_waiting hr) (fun p e => c.resting_legs p e hr) fun _ => hd

theorem Course.select (c : Course P s) (h : HeadId) : Course P (s.select h) := by
  unfold State.select
  split
  · exact c
  · rename_i hr
    rw [Bool.not_eq_true', Bool.not_eq_false] at hr
    split
    · rename_i hd
      exact (c.stopResting (by rw [(State.isIn_iff s _).1 hd]; decide) hr).still (State.holdTest_still _)
    · split
      · exact c
      · rename_i hw
        rw [Bool.not_eq_true', Bool.not_eq_false] at hw
        split
        · exact (c.settledHead hw h).still (State.drainTest_still _)
        · split
          · exact c.bindSort hw hr
          · split
            · exact c.bindOffer hw (State.resting_not_inFlight hr) _
            · exact c.selectSupply hw hr

theorem Course.selectResting (c : Course P s) : Course P s.selectResting := by
  unfold State.selectResting
  split
  · exact ((c.still (t := s.firstHead.1) Still.of_same).select _).select _
  · exact c.select .a
  · exact c.select .b
  · exact c

theorem Course.selectEntered (c : Course P s) (i : Site) : Course P (s.selectEntered i) := by
  unfold State.selectEntered
  split
  · exact (c.select _).select _
  · exact c.selectResting

theorem Course.preempt (c : Course P s) (hw : s.working = true) (hb : (s.head h).state = .bound) (o : Offer) :
    Course P (s.preempt h o) := by
  refine ((c.withdraw h (s.head h).legs).bindOffer ?_ ?_ o).still (State.reroute_still _)
  · exact State.working_of_control (by rw [State.withdraw_control]) hw
  · rw [State.withdraw_head, hb]; rfl

theorem State.bound_of_preemptOffer {i : Site} {o : Offer} (e : s.preemptOffer h i = some o) : (s.head h).state = .bound := by
  unfold State.preemptOffer at e
  split at e
  · assumption
  · cases e

theorem Course.considerPreemption (c : Course P s) (i : Site) : Course P (s.considerPreemption i) := by
  unfold State.considerPreemption
  split
  · rename_i hm
    have hw : s.working = true := by
      simp only [State.mayBind, Bool.and_eq_true] at hm
      exact hm.2.1
    split
    · exact c
    · rename_i e _; exact c.preempt hw (State.bound_of_preemptOffer e) _
    · rename_i e; exact c.preempt hw (State.bound_of_preemptOffer e) _
    · rename_i ea eb
      split
      · exact c.preempt hw (State.bound_of_preemptOffer ea) _
      · exact c.preempt hw (State.bound_of_preemptOffer eb) _
  · exact c

theorem Course.requestEntered (c : Course P s) (i : Site) : Course P (s.requestEntered i) := by
  unfold State.requestEntered
  split
  · exact c
  · exact (c.selectEntered i).considerPreemption i

end

end Sys2Proof.Machine
end

section
set_option Elab.async false

namespace Sys2Proof.Machine

section
variable {P : Prop} {s t : State} {h : HeadId}

/-! ## A job's course on a head -/

/-- A head without legs and without a command goes to rest (R64, R74). -/
theorem Course.restAfterJob (c : Course P s) (l : s.landed h) (hq : s.rail.waiting.get h = none) (hl : (s.head h).legs = [])
    (hd : P → s.control.state ≠ .drained) : Course P (s.restAfterJob h) := by
  unfold State.restAfterJob
  split
  · rename_i hw
    refine Course.select (c.move (State.setHeadState_only _) l (HeadRight.of_working hw (fun e => absurd (l.link hw) e)
      (fun e => absurd hq e) fun _ _ => ?_)) h
    rw [State.setHeadState_legs, hl]
  · exact (c.stop l hq (fun _ _ => hl) hd).still (State.holdTest_still _)

/-- A head that is not at rest: its device is not DRAINED. -/
theorem Course.not_drained (c : Course P s) (hn : (s.head h).state ≠ .idle) (p : P) : s.control.state ≠ .drained :=
  fun e => hn ((c.heads h).drained p e)

theorem Course.dissolveAtEnd (c : Course P s) (l : s.landed h) (hn : (s.head h).state ≠ .idle) (d : List Leg) :
    Course P (s.dissolveAtEnd h d) := by
  refine Course.restAfterJob (c.dissolve h d [] (.inl rfl)) (l.dissolve d []) (State.dissolve_waiting d []) ?_ fun p => ?_
  · rw [State.dissolve_head]
  · rw [State.dissolve_control]
    exact c.not_drained hn p

/-- What the planner decides at a leg's end: the head in flight, its command answered, nothing of it in line. -/
structure Landing (P : Prop) (s : State) (h : HeadId) : Prop where
  course : Course P s
  landed : s.landed h
  inFlight : (s.head h).state.inFlight = true

theorem Landing.waiting (k : Landing P s h) : s.rail.waiting.get h = none :=
  k.course.not_waiting (HeadState.not_bound_of_inFlight k.inFlight)

theorem Landing.not_idle (k : Landing P s h) : (s.head h).state ≠ .idle := HeadState.ne_of_inFlight k.inFlight rfl

theorem Landing.aside (k : Landing P s h) (a : Aside s t) : Landing P t h :=
  ⟨k.course.still a.still, k.landed.of_aside a, by rw [a.head]; exact k.inFlight⟩

/-- The head's job and legs changed, its state kept. -/
theorem Landing.setHead (k : Landing P s h) (r : HeadRecord) (hs : r.state = (s.head h).state := by rfl) : Landing P (s.setHead h r) h :=
  ⟨k.course.setLegs hs (.inr (.inr (by rw [hs]; exact k.inFlight))), k.landed, by rw [State.head_setHead_self, hs]; exact k.inFlight⟩

theorem Landing.endJob (k : Landing P s h) : Course P (s.endJob h) := by
  have a := State.reroute_aside (s.setHead h { s.head h with job := none, legs := [] })
  have k' := (k.setHead { s.head h with job := none, legs := [] } rfl).aside a
  refine k'.course.restAfterJob k'.landed k'.waiting ?_ (k'.course.not_drained k'.not_idle)
  rw [a.head, State.head_setHead_self]

theorem Landing.nextLeg (k : Landing P s h) (hw : s.working = true) (l : Leg) : Course P (s.nextLeg h l) :=
  Course.submit (k.course.wait hw k.landed _ (.inr rfl)) hw (.inr rfl) (by rw [State.head_setHead_self]; simp)

theorem Landing.feedNext (k : Landing P s h) (hw : s.working = true) (n : Nat) : Course P (s.feedNext h n) := by
  unfold State.feedNext
  split
  · exact k.endJob
  · have a := State.evaluateSupply_aside s
    simp only
    split
    · rename_i e
      have b := a.trans (State.feedLeg_aside _ h e)
      exact (k.aside b).nextLeg (State.working_of_control (by rw [b.control]) hw) _
    · exact (k.aside a).endJob

theorem Landing.sortNext (k : Landing P s h) (hw : s.working = true) (j : Job) : Course P (s.sortNext h j) := by
  have a := State.sortLeg_aside s h j.taken 4 []
  unfold State.sortNext
  split
  · rename_i u l e
    rw [e] at a
    exact ((k.aside a).setHead _).nextLeg (State.working_of_control (by rw [State.setHead_control, a.control]) hw) _
  · rename_i e
    rw [e] at a
    exact (k.aside a).endJob

theorem Landing.legEnded (k : Landing P s h) (ok : Bool) : Course P (s.legEnded h ok) := by
  unfold State.legEnded
  simp only
  split
  · exact k.course
  · rename_i j _
    have k' := k.setHead { s.head h with job := some { j with legsDone := j.legsDone + 1 }, legs := (s.head h).legs.tail } rfl
    split
    · exact k'.course.dissolveAtEnd k'.landed k'.not_idle _
    · rename_i hw
      rw [Bool.not_eq_true', Bool.not_eq_false] at hw
      split
      · exact k'.feedNext hw _
      · exact k'.sortNext hw _
      · split
        · split
          · exact k'.nextLeg hw _
          · exact k'.endJob
        · exact k'.endJob
      all_goals exact k'.endJob

theorem State.startAct_head (k : Nozzle) (a : Action) : ((s.startAct h k a).head h).state = .acting :=
  State.setHeadState_state _

/-- An action starts at a head that is not at rest. -/
theorem Course.startAct (c : Course P s) (l : s.landed h) (hn : (s.head h).state ≠ .idle) (hs : (s.head h).state ≠ .stopped)
    (hq : s.rail.waiting.get h = none) (k : Nozzle) (a : Action) : Course P (s.startAct h k a) := by
  have f := State.startAct_head (s := s) (h := h) k a
  refine c.move (State.startAct_only k a) l ⟨fun _ => .inl (by rw [f]; rfl), fun e => absurd hq e,
    fun e => absurd ((c.heads h).held e) hs, fun _ _ e => ?_, fun p e => absurd e (c.not_drained hn p)⟩
  rw [f] at e
  rcases e with e | e | e <;> cases e

theorem Landing.startAct (k : Landing P s h) (n : Nozzle) (a : Action) : Course P (s.startAct h n a) :=
  k.course.startAct k.landed k.not_idle (HeadState.ne_of_inFlight k.inFlight rfl) k.waiting n a

theorem Landing.legArrived (k : Landing P s h) : Course P (s.legArrived h) := by
  have dissolved := fun d => k.course.dissolveAtEnd k.landed k.not_idle d
  unfold State.legArrived
  split
  · exact k.course
  · split
    · exact k.startAct _ _
    · split
      · exact dissolved _
      · split
        · split
          · exact k.startAct _ _
          · split
            · rename_i hw
              refine k.course.move (State.setHeadState_only _) k.landed (HeadRight.of_working hw
                (fun e => absurd (k.landed.link hw) e) (fun e => absurd k.waiting e) fun _ e => ?_)
              rw [State.setHeadState_state] at e
              rcases e with e | e | e <;> cases e
            · exact dissolved _
        · exact k.startAct _ _
    · exact k.endJob

theorem State.landed.of_still (l : s.landed h) (k : Still s t) (hh : s.control.state ≠ .halted) : t.landed h := by
  refine ⟨.inl ?_, ?_⟩
  · rw [k.link]; exact l.1.resolve_right hh
  · rw [k.ends]; exact l.2

theorem Landing.still (k : Landing P s h) (a : Still s t) (hh : s.control.state ≠ .halted) : Landing P t h :=
  ⟨k.course.still a, k.landed.of_still a hh, by rw [a.state]; exact k.inFlight⟩

/-- The other head's waiting leg examined again: this head lands as before. -/
theorem Landing.regrant (k : Landing P s h) : Landing P (s.regrant h.other) h := by
  have o : Only h.other s (s.regrant h.other) := by
    unfold State.regrant
    split
    · exact ⟨rfl, rfl, rfl, rfl, rfl, rfl⟩
    · split
      · exact State.grantLeg_only _ _ _
      · exact ⟨rfl, rfl, rfl, rfl, rfl, rfl⟩
  have l := State.landed.of_only (k := h.other) (by rw [HeadId.other_other]; exact k.landed) o
  have st := o.state
  rw [HeadId.other_other] at l st
  exact ⟨k.course.regrant _, l, by rw [st]; exact k.inFlight⟩

theorem State.setHead_still (r : HeadRecord) (hs : r.state = (s.head h).state := by rfl)
    (hl : r.legs = (s.head h).legs := by rfl) :
    Still s (s.setHead h r) := by
  refine ⟨.inl rfl, fun g => ?_, fun g => ?_, rfl, rfl, rfl, State.oneRequest_of_same (fun _ => rfl) rfl⟩ <;>
  · rw [State.head_setHead]
    split
    · rename_i e; subst e; assumption
    · rfl

theorem Landing.travelEnded (k : Landing P s h) (hh : s.control.state ≠ .halted) (x y : Nat) : Course P (s.travelEnded h x y) := by
  have k' := (k.still (t := s.setReserved h (some ⟨x, x⟩)) Still.of_same hh).regrant
  have hh' : ((s.setReserved h (some ⟨x, x⟩)).regrant h.other).control.state ≠ .halted := by
    rw [State.regrant_control]; exact hh
  exact ((k'.still (State.setHead_still _) hh').still (State.holdTest_still _) hh').legArrived

/-- The head of an outstanding command, at a command taken at rest. -/
theorem Course.flies (c : Course P s) (hl : s.link.get h ≠ .empty) :
    (s.head h).state.inFlight = true ∨ s.control.state = .halted := (c.heads h).flight hl

/-- A command record emptied at its report. -/
theorem Course.answered (c : Course P s) (hn : s.legEnds = []) : Course P (s.setCommand h .empty) ∧ (s.setCommand h .empty).landed h := by
  have l : (s.setCommand h .empty).landed h := ⟨.inl (Pair.get_set_self _ _ _), fun ok hm => by
    change _ ∈ s.legEnds at hm; rw [hn] at hm; cases hm⟩
  obtain ⟨_, hw, hh, hr, hd⟩ := c.heads h
  exact ⟨c.only (State.setCommand_only _) ⟨fun e => absurd (Pair.get_set_self _ _ _) e, hw, hh, hr, hd⟩ fun ok hm =>
    absurd (show _ ∈ (s.setCommand h .empty).legEnds from hm) (l.2 ok), l⟩

theorem Course.takeArrived (c : Course P s) (hn : s.legEnds = []) (h : HeadId) : Course P (s.takeArrived h) := by
  unfold State.takeArrived
  split
  · rename_i e
    obtain ⟨ca, l⟩ := c.answered (h := h) hn
    simp only
    split
    · rename_i hh
      exact ca.setLegs rfl (.inl rfl)
    · rename_i hh
      have hs : s.control.state ≠ .halted := fun e => hh ((State.isIn_iff _ _).2 e)
      exact Landing.travelEnded ⟨ca, l, (c.flies (by rw [e]; simp)).resolve_right hs⟩ hs _ _
  · exact c

theorem Course.actionEnded (c : Course P s) (l : s.landed h) (hn : s.legEnds = [])
    (hf : (s.head h).state.inFlight = true ∨ s.control.state = .halted) (k : Nozzle) (ok : Bool) :
    Course P (s.actionEnded h k ok) := by
  unfold State.actionEnded
  split
  · exact c
  · rename_i leg rest e
    have a := (State.report_still s h leg k ok).trans (State.holdTest_still _)
    have c' := c.still a
    simp only
    split
    · rename_i hh
      exact c'.setLegs rfl (.inr (.inl ((State.isIn_iff _ _).1 hh)))
    · rename_i hh
      have hs : s.control.state ≠ .halted := by
        intro hc
        rcases a.device with f | ⟨f, _⟩ | ⟨f, _⟩
        · exact hh ((State.isIn_iff _ _).2 (f.trans hc))
        · rw [hc] at f; cases f
        · rw [hc] at f; cases f
      have k' := Landing.still ⟨c, l, hf.resolve_right hs⟩ a hs
      have en : (((s.report h leg k ok).holdTest).push (.legEnd h ok)).legEnds = [.legEnd h ok] := by
        have z : ((s.report h leg k ok).holdTest).legEnds = [] := a.ends.trans hn
        unfold State.legEnds at z ⊢
        rw [List.filter_append, List.append_eq_nil_iff] at z
        rw [List.filter_append]
        simp [State.push, Task.isLegEnd, z.1, z.2]
      refine ⟨fun g => ⟨(c'.heads g).flight, (c'.heads g).waiting, (c'.heads g).held, (c'.heads g).resting,
        (c'.heads g).drained⟩, by rw [en]; simp, fun g ok' hm => ?_⟩
      rw [en, List.mem_singleton] at hm
      cases hm
      refine ⟨?_, k'.inFlight⟩
      change (s.report h leg k ok).holdTest.link.get h = .empty
      rw [a.link]
      exact l.1.resolve_right hs

theorem Course.sendAct (c : Course P s) (l : s.landed h)
    (hf : (s.head h).state.inFlight = true ∨ s.control.state = .halted) (k : Nozzle) (a : Action) (n : Nat) :
    Course P (s.sendAct h k a n) := by
  obtain ⟨_, hw, hh, hr, hd⟩ := c.heads h
  exact c.move ⟨rfl, rfl, rfl, Pair.get_other_set _ _ _, rfl, rfl⟩ l ⟨fun _ => hf, hw, hh, hr, hd⟩

theorem Course.takeActDone (c : Course P s) (hn : s.legEnds = []) (h : HeadId) (k : Nozzle) (v : Bool) :
    Course P (s.takeActDone h k v) := by
  unfold State.takeActDone
  split
  · rename_i e
    have hf := c.flies (h := h) (by rw [e]; simp)
    obtain ⟨ca, l⟩ := c.answered (h := h) hn
    split
    · unfold State.judgeAttempt
      split
      · exact ca.actionEnded l hn hf _ _
      · split
        · exact ca.sendAct l hf _ _ _
        · exact ca.actionEnded l hn hf _ _
    · exact c
  · exact c

/-! ## Hold, halt and CLOSE -/

/-- Follow-up work outside DRAINING and DRAINED stays outside them. -/
theorem Path.not_drained (p : Path .work s t) (h : s.control.state ≠ .draining ∧ s.control.state ≠ .drained) :
    t.control.state ≠ .draining ∧ t.control.state ≠ .drained := by
  refine Path.keeps (P := fun s => s.control.state ≠ .draining ∧ s.control.state ≠ .drained) (fun s t m hs => ?_) p h
  rcases m.work.1 with e | ⟨_, e⟩ | ⟨e, _⟩
  · rwa [e]
  · rw [e]; simp
  · exact absurd e hs.1

theorem Course.holdHead (c : Course P s) (hd : s.control.state ≠ .drained) (h : HeadId) : Course P (s.holdHead h) := by
  have dissolved : (s.head h).state.inFlight = false → (s.head h).state ≠ .idle →
      Course P ((s.dissolve h (s.head h).legs []).restAfterJob h) :=
    fun hf hn => c.dissolveAtEnd (c.landed hf) hn _
  unfold State.holdHead
  split
  · rename_i e
    exact (c.stopResting hd (State.isResting_iff.2 (.inl e))).still (State.holdTest_still _)
  · rename_i e
    exact (c.stopResting hd (State.isResting_iff.2 (.inr e))).still (State.holdTest_still _)
  · rename_i e; exact dissolved (by rw [e]; rfl) (by rw [e]; decide)
  · rename_i e; exact dissolved (by rw [e]; rfl) (by rw [e]; decide)
  · rename_i e; exact dissolved (by rw [e]; rfl) (by rw [e]; decide)
  all_goals exact c

theorem Course.enterHolding (c : Course P s) (hw : s.working = true) (auto : Bool) : Course P (s.enterHolding auto) := by
  have heads : ∀ t : State, Course P t → t.control.state = .holding → Course P ((t.holdHead .a).holdHead .b).holdTest := by
    intro t ct ht
    have hd := (State.holdHead_path t .a).not_drained (by rw [ht]; decide)
    exact ((ct.holdHead (by rw [ht]; decide) .a).holdHead hd.2 .b).still (State.holdTest_still _)
  have c' : Course P (s.setDevice .holding) :=
    c.control (fun e => absurd e (State.working_ne hw (by decide) (by decide))) (by simp) (by simp)
  unfold State.enterHolding
  simp only
  split
  · exact heads _ (c'.still (State.setFlag_still _ .state)) (by simp [State.setDevice])
  · exact heads _ c' rfl

theorem State.haltHead_control (h : HeadId) : (s.haltHead h).control = s.control := State.dissolve_control _ _

theorem Course.haltHead (c : Course P s) (hd : s.control.state = .halted) (hn : s.legEnds = []) (h : HeadId) :
    Course P (s.haltHead h) := by
  have c' := c.dissolve h (if !(s.link.get h).isEmpty then (s.head h).legs.tail else (s.head h).legs)
    (if !(s.link.get h).isEmpty then (s.head h).legs.take 1 else []) (.inr hd)
  refine c'.stop ⟨.inr ?_, fun ok hm => ?_⟩ (State.dissolve_waiting _ _) (fun _ e => absurd ?_ e) fun _ => ?_
  · rw [State.dissolve_control]; exact hd
  · rw [(State.dissolve_chooses s h _ _).ends, hn] at hm; cases hm
  · rw [State.dissolve_control]; exact hd
  · rw [State.dissolve_control, hd]; decide

theorem CommandRecord.stopDog_eq_empty {r : CommandRecord} : r.stopDog = .empty ↔ r = .empty := by
  cases r <;> simp [CommandRecord.stopDog]

theorem Course.stopDogs (c : Course P s) (hn : s.legEnds = []) : Course P { s with link := ⟨s.link.a.stopDog, s.link.b.stopDog⟩ } := by
  refine ⟨fun g => ?_, c.once, fun g ok hm => ?_⟩
  · obtain ⟨hf, hw, hh, hr, hd⟩ := c.heads g
    refine ⟨fun e => hf ?_, hw, hh, hr, hd⟩
    cases g <;> exact fun z => e (CommandRecord.stopDog_eq_empty.2 z)
  · change _ ∈ s.legEnds at hm
    rw [hn] at hm
    cases hm

theorem Course.enterHalted (c : Course P s) (hn : s.legEnds = []) : Course P s.enterHalted := by
  have c1 : Course P { s with control := { s.control with state := .halted, holdAck := false } } :=
    c.control (fun _ => rfl) (by simp) (by simp)
  have k := (State.setFlag_still { s with control := { s.control with state := .halted, holdAck := false } } .state).trans
    (State.send_still _ .stopAll)
  have n2 := k.ends.trans hn
  have c3 := ((c1.still k).stopDogs n2).haltHead (by simp) n2 .a
  exact c3.haltHead (by rw [State.haltHead_control]; simp) ((State.haltHead_chooses _ .a).ends.trans n2) .b

theorem Course.closeHead (c : Course P s) (f : FrameId) (h : HeadId) : Course P (s.closeHead f h) := by
  unfold State.closeHead
  simp only
  split
  · rename_i hc
    have hn : (s.head h).state.inFlight = false := by rcases hc.1 with e | e <;> rw [e] <;> rfl
    have c' := c.dissolve h (s.head h).legs [] (.inl rfl)
    have l := (c.landed hn).dissolve (s.head h).legs []
    refine Course.still (c'.move (State.setHeadState_only .idle) l ⟨fun e => .inr (l.1.resolve_left e),
      fun e => absurd (State.dissolve_waiting _ _) e, fun e => ?_, fun _ _ _ => ?_, fun _ _ => State.setHeadState_state _⟩)
      (State.push_still _ _ rfl)
    · rw [State.setHeadState, State.setHead_control, State.dissolve_control] at e
      have := (c.heads h).held e
      rcases hc.1 with f | f <;> rw [f] at this <;> cases this
    · rw [State.setHeadState_legs, State.dissolve_head]
  · exact c

theorem Course.frameWrite (c : Course P s) (f : FrameId) (narrow : Bool) (v : Word) : Course P (s.frameWrite f narrow v) := by
  have close : Course P (s.acceptClose f) := by
    have c' := c.still (State.writeFrameState_still s f .close)
    unfold State.acceptClose State.closeFrame
    simp only
    split
    · exact c'
    · split
      · exact Course.still (((c'.still (State.setFrame_still _ f _)).closeHead f .a).closeHead f .b) (State.closedTest_still _ f)
      · exact c'
  unfold State.frameWrite
  simp only
  split
  · exact c.still (State.refuseFrameWrite_still s f)
  · split
    · exact c
    · split
      · exact c.still (State.acceptPosted_still s f)
      · split
        · exact close
        · split
          · exact c.still (State.acceptFree_still s f)
          · exact c.still (State.refuseFrameWrite_still s f)

theorem Course.wordWrite (c : Course P s) (a : Nat) (e : BitVec 4) (v : Word) : Course P (s.wordWrite a e v) := by
  unfold State.wordWrite
  split
  · exact c
  · split
    · exact c.frameWrite _ _ _
    · exact c.still (State.slotWrite_still s _ _ _)
    · exact c.still (State.setMem_still s _)

/-! ## Losses, faults, watchdogs and positions -/

theorem Course.takeVacuumLost (c : Course P s) (h : HeadId) (k : Nozzle) : Course P (s.takeVacuumLost h k) := by
  unfold State.takeVacuumLost
  split
  · exact c
  · split
    · exact c
    · rename_i u _ _
      have c' := c.still ((State.declareLost_still s u .vacuumLost).trans (State.setSlot_still _ h k none))
      simp only
      split
      · rename_i hw; exact c'.enterHolding hw true
      · exact c'

theorem Course.takeDriveFault (c : Course P s) (hn : s.legEnds = []) (f : FaultTarget) : Course P (s.takeDriveFault f) := by
  unfold State.takeDriveFault
  split
  · exact c
  · have k := State.raise_still s (faultNotice f)
    simp only
    split
    · exact c.still k
    · exact (c.still k).enterHalted (k.ends.trans hn)

/-- The halt of a watchdog (R119, R120). -/
theorem Course.timedOut (c : Course P s) (hn : s.legEnds = []) (n : Nat) (m : Notice) :
    Course P ((s.reach n).raise m).enterHalted := by
  have k := (State.reach_still s n).trans (State.raise_still _ m)
  exact (c.still k).enterHalted (k.ends.trans hn)

theorem Course.travelTimeout (c : Course P s) (hn : s.legEnds = []) (h : HeadId) : Course P (s.travelTimeout h) := by
  unfold State.travelTimeout
  split
  · exact c.timedOut hn _ _
  · exact c

theorem Course.actionTimeout (c : Course P s) (hn : s.legEnds = []) (h : HeadId) : Course P (s.actionTimeout h) := by
  unfold State.actionTimeout
  split
  · exact c.timedOut hn _ _
  · exact c

/-- Heads stopped without legs, with no command, no waiting leg and no work in line. -/
theorem Course.of_reset (hs : ∀ h : HeadId, (s.head h).state = .stopped) (hl : ∀ h : HeadId, (s.head h).legs = [])
    (hk : s.link = ⟨.empty, .empty⟩) (hq : s.rail.waiting = ⟨none, none⟩) (hd : s.control.state ≠ .drained)
    (hn : s.legEnds = []) : Course P s := by
  refine ⟨fun h => ⟨fun e => absurd ?_ e, fun e => absurd ?_ e, fun _ => hs h, fun _ _ _ => hl h, fun _ e => absurd e hd⟩,
    by rw [hn]; simp, fun h ok hm => ?_⟩
  · rw [hk]; cases h <;> rfl
  · rw [hq]; cases h <;> rfl
  · rw [hn] at hm; cases hm

theorem Course.completeArm (hn : s.legEnds = []) (w : Shadow) (pa pb : Point) : Course P (s.completeArm w pa pb) := by
  have frames : ∀ t : State, Course P t → Course P (t.setResult 0).armFrames := fun t c =>
    c.still ((State.setResult_still t 0).trans (State.armFrames_still _))
  refine frames _ (Course.of_reset (fun h => ?_) (fun h => ?_) rfl rfl (by simp) hn) <;> cases h <;> rfl

theorem Course.takePosition (c : Course P s) (hn : s.legEnds = []) (h : HeadId) (p : Point) : Course P (s.takePosition h p) := by
  unfold State.takePosition
  split
  · exact c
  · exact c
  · split
    · exact c
    · simp only
      split
      · split
        · exact Course.completeArm hn _ _ _
        · exact c.still (State.refuseArm_still s _ _)
      · exact c.still Still.of_same

/-! ## Requests -/

theorem Course.requestRun (c : Course P s) : Course P s.requestRun := by
  unfold State.requestRun
  split
  · exact c.still (State.runFromHeld_still s)
  · rename_i e
    exact Course.still (c.control (k := { s.control with state := .run, drainLatch := false })
      (fun f => by rw [e] at f; cases f) (by simp) (by simp)) ((State.setResult_still _ 0).trans (State.push_still _ _ rfl))
  all_goals exact c.still (State.refuseRequest_still s)

theorem Course.requestHold (c : Course P s) : Course P s.requestHold := by
  unfold State.requestHold
  split
  · rename_i hw
    exact (c.still (State.setResult_still s 0)).enterHolding hw false
  · exact c.still (State.refuseRequest_still s)

theorem Course.requestDrain (c : Course P s) : Course P s.requestDrain := by
  unfold State.requestDrain
  split
  · exact c.still (Still.trans (t := { s with control := { s.control with drainLatch := true } }) Still.of_same
      (State.setResult_still _ 0))
  · rename_i e
    refine Course.still (c.control (k := { s.control with state := .draining, drainLatch := true })
      (fun f => by rw [e] at f; cases f) (by simp) (by simp)) ((State.setResult_still _ 0).trans
        ((State.reroute_still _).trans ((State.push_still _ _ rfl).trans (State.push_still _ _ rfl))))
  all_goals exact c.still (State.refuseRequest_still s)

theorem Course.takeRequest (c : Course P s) (n : Nat) : Course P (s.takeRequest n) := by
  unfold State.takeRequest
  split
  · exact c
  · exact c.still (State.requestArm_still s)
  · exact c.requestRun
  · exact c.requestHold
  · exact c.requestDrain
  · exact Course.of_reset (fun h => by cases h <;> rfl) (fun h => by cases h <;> rfl) rfl rfl (fun e => by cases e) rfl
  · exact c.still (State.refuseRequest_still s)

theorem Course.controlWrite (c : Course P s) (n : Nat) (v : BitVec 3) : Course P (s.controlWrite n v) :=
  (c.still (State.setRegisters_still s _)).takeRequest n

theorem Course.registerWrite (c : Course P s) (o : BitVec 5) (e : BitVec 4) (v : Word) : Course P (s.registerWrite o e v) := by
  unfold State.registerWrite
  split
  · split
    · exact c.controlWrite _ _
    · exact c.still (State.setRegisters_still s _)
    · exact c.still (State.setRegisters_still s _)
    · exact c
  · exact c

theorem Course.wakeHead (c : Course P s) (hw : s.working = true) (h : HeadId) : Course P (s.wakeHead h) := by
  unfold State.wakeHead
  split
  · rename_i e
    have l := c.landed (h := h) (by rw [e]; rfl)
    have hq : s.rail.waiting.get h = none := c.not_waiting (by rw [e]; rintro (f | f) <;> cases f)
    refine c.move (State.setHeadState_only _) l (HeadRight.of_working hw (fun f => absurd (l.link hw) f)
      (fun f => absurd hq f) fun p _ => ?_)
    rw [State.setHeadState_legs]
    exact (c.heads h).resting p (State.working_ne hw (by decide) (by decide)) (.inl e)
  · exact c

theorem State.wakeHead_control (h : HeadId) : (s.wakeHead h).control = s.control := by
  unfold State.wakeHead
  split <;> rfl

theorem Course.wakeHeads (c : Course P s) (hw : s.working = true) :
    Course P ((((s.wakeHead .a).wakeHead .b).push .selectIdle).push .drainTest) :=
  Course.still ((c.wakeHead hw .a).wakeHead (State.working_of_control (by rw [State.wakeHead_control]) hw) .b)
    ((State.push_still _ _ rfl).trans (State.push_still _ _ rfl))

theorem Course.enterFromHeld (c : Course P s) : Course P s.enterFromHeld := by
  have enter : ∀ (t : State) (b : Bool), Course P t → t.working = true →
      Course P (((((if b then t.reroute else t).wakeHead .a).wakeHead .b).push .selectIdle).push .drainTest) := by
    intro t b ct hw
    split
    · exact (ct.still (State.reroute_still t)).wakeHeads (State.working_of_control (by rw [(State.reroute_aside t).control]) hw)
    · exact ct.wakeHeads hw
  unfold State.enterFromHeld
  split
  · rename_i hh
    have hs := (State.isIn_iff s _).1 hh
    refine enter _ _ (c.control (fun e => by rw [hs] at e; cases e) ?_ ?_) (State.working_iff.2 ?_) <;>
    · simp only
      split <;> simp
  · exact c

/-! ## Timers of the sockets -/

theorem Course.socketClear (c : Course P s) (i : Site) (h : HeadId) : Course P (s.socketClear i h) := by
  unfold State.socketClear
  split
  · rename_i e _
    split
    · split
      · exact c.startAct (c.landed (by rw [e]; rfl)) (by rw [e]; decide) (by rw [e]; decide)
          (c.not_waiting (by rw [e]; rintro (f | f) <;> cases f)) _ _
      · exact c
    · exact c
  · exact c

theorem Course.recoveryExpired (c : Course P s) (i : Site) : Course P (s.recoveryExpired i) := by
  unfold State.recoveryExpired
  split
  · exact c.still ((State.enterStopped_still s i _).trans ((State.setSocket_still _ i _).trans (State.updateRequests_still _ i)))
  · have c' := c.still (State.enterStopped_still s i .empty)
    simp only
    split
    · exact c'.socketClear i _
    · exact c'.still (State.updateRequests_still _ i)

theorem Course.timerExpired (c : Course P s) (i : Site) : Course P (s.timerExpired i) := by
  unfold State.timerExpired
  split
  · exact c.still ((State.reach_still s _).trans (State.contactExpired_still _ i))
  · exact c.still ((State.reach_still s _).trans (State.eotExpired_still _ i))
  · exact c.still ((State.reach_still s _).trans (State.releaseExpired_still _ i))
  · exact (c.still (State.reach_still s _)).recoveryExpired i
  · exact c

theorem Course.timerEvent (c : Course P s) (i : Site) (k : TimerKind) : Course P (s.timerEvent i k) := by
  unfold State.timerEvent
  split
  · split
    · exact c.timerExpired i
    · exact c
  · exact c

/-! ## The follow-up work and the commands -/

/-- A task taken out of line, its work done. -/
theorem Course.runTask (c : Course P s) (x : Task) (ha : t.legEnds ++ [x].filter Task.isLegEnd = s.legEnds ∨
    [x].filter Task.isLegEnd ++ t.legEnds = s.legEnds) (hc : t.control = s.control) (hp : t.planner = s.planner)
    (hl : t.link = s.link) (hr : t.rail = s.rail) : Course P (t.runTask x) := by
  have head : ∀ g, t.head g = s.head g := fun g => by rw [State.head, hp]; rfl
  have sub : ∀ y ∈ t.legEnds, y ∈ s.legEnds := fun y hy => by
    rcases ha with e | e <;> rw [← e] <;> simp [hy]
  have len : t.legEnds.length ≤ s.legEnds.length := by
    rcases ha with e | e <;> rw [← e] <;> simp
  have ct : Course P t := by
    refine ⟨fun g => ?_, len.trans c.once, fun g ok hm => ?_⟩
    · obtain ⟨hf, hw, hh, hq, hd⟩ := c.heads g
      constructor
      · rw [hl, head, hc]; exact hf
      · rw [hr, head]; exact hw
      · rw [hc, head]; exact hh
      · rw [hc, head]; exact hq
      · rw [hc, head]; exact hd
    · rw [hl, head]
      exact c.ends g ok (sub _ hm)
  cases x with
  | entered i => exact ct.requestEntered i
  | selectIdle => exact ct.selectResting
  | selectHead h => exact ct.select h
  | legEnd h ok =>
    have hm : Task.legEnd h ok ∈ s.legEnds := by rcases ha with e | e <;> rw [← e] <;> simp [Task.isLegEnd]
    have none : t.legEnds = [] := by
      have one : ([Task.legEnd h ok].filter Task.isLegEnd).length = 1 := rfl
      have := c.once
      refine List.length_eq_zero_iff.1 ?_
      rcases ha with e | e <;> rw [← e, List.length_append, one] at this <;> omega
    obtain ⟨hk, hf⟩ := c.ends h ok hm
    refine Landing.legEnded ⟨ct, ⟨.inl (by rw [hl]; exact hk), fun ok' h' => ?_⟩, by rw [head]; exact hf⟩ ok
    rw [none] at h'
    cases h'
  | runEntry => exact ct.enterFromHeld
  | drainTest => exact ct.still (State.drainTest_still _)
  | expiry i => exact ct.timerExpired i
  | hostWord a e v => exact ct.wordWrite a e v

theorem Course.cascade (n : Nat) (c : Course P s) : Course P (cascade n s) := by
  induction n generalizing s with
  | zero => exact c
  | succ n ih =>
    unfold Machine.cascade
    split
    · rename_i x rest ha
      refine ih (Course.runTask (t := { s with agenda := rest }) c x (.inr ?_) rfl rfl rfl rfl)
      simp only [State.legEnds, ha]
      rw [← List.filter_append]
      rfl
    · rename_i x rest ha hl
      refine ih (Course.runTask (t := { s with trailing := rest }) c x (.inr ?_) rfl rfl rfl rfl)
      simp only [State.legEnds, ha, hl, List.nil_append]
      rw [← List.filter_append]
      rfl
    · exact c

theorem Course.finish (c : Course P s) (h : s.finish = .next t) : Course P t := by
  cases h
  exact c.cascade _

/-- Every command taken with no leg end in line keeps the course. -/
theorem Course.exec {c : Instr} (k : Course P s) (hn : s.legEnds = []) (h : exec c s = .next t) : Course P t := by
  cases c with
  | ready site up => exact (k.still (State.fromTester_still s _ _ fun i => State.takeReady_still s i up)).finish h
  | endOfTest site bin => exact (k.still (State.fromTester_still s _ _ fun i => State.takeEnd_still s i bin)).finish h
  | contactExpiry i => exact (k.timerEvent i _).finish h
  | eotWatchdogExpiry i => exact (k.timerEvent i _).finish h
  | releaseExpiry i => exact (k.timerEvent i _).finish h
  | recoveryExpiry i => exact (k.timerEvent i _).finish h
  | arrived g => exact (k.takeArrived hn g).finish h
  | actDone g n v => exact (k.takeActDone hn g n v).finish h
  | position g x y => exact (k.takePosition hn g _).finish h
  | positionWaitExpiry => exact (k.still (State.positionWaitOver_still s)).finish h
  | vacuumLost g n => exact (k.takeVacuumLost g n).finish h
  | driveFault f => exact (k.takeDriveFault hn f).finish h
  | travelWatchdogExpiry g => exact (k.travelTimeout hn g).finish h
  | actionWatchdogExpiry g => exact (k.actionTimeout hn g).finish h
  | arm v => exact (k.controlWrite 1 v).finish h
  | run v => exact (k.controlWrite 2 v).finish h
  | hold v => exact (k.controlWrite 3 v).finish h
  | drain v => exact (k.controlWrite 4 v).finish h
  | reset v => exact (k.controlWrite 5 v).finish h
  | undefinedRequest b v => exact (k.controlWrite _ v).finish h
  | attentionThreshold v => exact (k.controlWrite 0 v).finish h
  | attentionClear v => exact Course.finish (k.still (State.setRegisters_still s _)) h
  | levels v => exact Course.finish (k.still (State.setRegisters_still s _)) h
  | registerWriteDropped o e v => exact (k.registerWrite o e v).finish h
  | powerOnReset =>
    exact Course.finish (s := s.powerOn) (Course.of_reset (fun h => by cases h <;> rfl) (fun h => by cases h <;> rfl) rfl rfl
      (fun e => by cases e) rfl) h
  | exchangeMemoryWrite o b =>
    change (if _ then _ else _) = _ at h
    split at h
    · cases h
    · refine Course.finish (s := { s with trailing := wordTasks o.toNat b ++ s.trailing }) (k.still (Still.of_ends ?_
        (State.oneRequest_of_same (fun _ => rfl) rfl))) h
      have words : (wordTasks o.toNat b).filter Task.isLegEnd = [] := by
        rw [List.filter_eq_nil_iff]
        intro x hx
        unfold wordTasks at hx
        split at hx
        · cases hx
        · obtain ⟨_, _, rfl⟩ := List.mem_map.1 hx
          simp [wordTask, Task.isLegEnd]
      simp [State.legEnds, words]
  | posted f => exact (k.frameWrite f _ _).finish h
  | close f => exact (k.frameWrite f _ _).finish h
  | frameFree f => exact (k.frameWrite f _ _).finish h
  | frameWriteRefused f e v =>
    refine Course.finish ?_ h
    split
    · exact k
    · exact k.frameWrite f _ _
  | slotFree i => exact (k.still (State.slotWrite_still s i _ _)).finish h
  | slotWriteRefused i e v =>
    refine Course.finish ?_ h
    split
    · exact k
    · exact k.still (State.slotWrite_still s i _ _)

end

end Sys2Proof.Machine
end

section
set_option Elab.async false

namespace Sys2Proof.Machine

/-! ## Law 9 through every command (R19, R20, R56) -/

section
variable {s t : State}

/-- A path of operations of either kind: what law 9 needs of an event. -/
theorem State.oneRequest_of_sites (b : s.oneRequest) (hs : t.sites = s.sites := by rfl)
    (hq : t.planner.requests = s.planner.requests := by rfl) : t.oneRequest :=
  State.oneRequest_of_same (fun i => by rw [State.socket, hs]; rfl) hq b

/-- No site is bound. -/
theorem State.oneRequest_of_free (h : ∀ i : Site, (t.socket i).bound = none) : t.oneRequest := fun i e => absurd (h i) e

theorem State.actionEnded_books (h : HeadId) (k : Nozzle) (ok : Bool) (b : s.oneRequest) : (s.actionEnded h k ok).oneRequest := by
  unfold State.actionEnded
  split
  · exact b
  · rename_i l _ _
    have b' := ((State.report_still s h l k ok).trans (State.holdTest_still _)).books b
    simp only
    split
    · exact State.oneRequest_of_sites b'
    · exact State.oneRequest_of_sites b'

theorem State.takeActDone_books (h : HeadId) (k : Nozzle) (v : Bool) (b : s.oneRequest) : (s.takeActDone h k v).oneRequest := by
  unfold State.takeActDone
  split
  · have b' : (s.setCommand h .empty).oneRequest := State.oneRequest_of_sites b
    split
    · unfold State.judgeAttempt
      split
      · exact State.actionEnded_books h k _ b'
      · split
        · exact State.oneRequest_of_sites b'
        · exact State.actionEnded_books h k _ b'
    · exact b
  · exact b

theorem State.takeVacuumLost_books (h : HeadId) (k : Nozzle) (b : s.oneRequest) : (s.takeVacuumLost h k).oneRequest := by
  unfold State.takeVacuumLost
  split
  · exact b
  · split
    · exact b
    · rename_i u _ _
      have b' := ((State.declareLost_still s u .vacuumLost).trans (State.setSlot_still _ h k none)).books b
      simp only
      split
      · exact (State.enterHolding_chooses _ true).books b'
      · exact b'

theorem State.takeDriveFault_books (f : FaultTarget) (b : s.oneRequest) : (s.takeDriveFault f).oneRequest := by
  have b' := (State.raise_still s (faultNotice f)).books b
  unfold State.takeDriveFault
  split
  · exact b
  · simp only
    split
    · exact b'
    · exact (State.enterHalted_chooses _).books b'

theorem State.travelTimeout_books (h : HeadId) (b : s.oneRequest) : (s.travelTimeout h).oneRequest := by
  unfold State.travelTimeout
  split
  · exact (State.enterHalted_chooses _).books (((State.reach_still s _).trans (State.raise_still _ _)).books b)
  · exact b

theorem State.actionTimeout_books (h : HeadId) (b : s.oneRequest) : (s.actionTimeout h).oneRequest := by
  unfold State.actionTimeout
  split
  · exact (State.enterHalted_chooses _).books (((State.reach_still s _).trans (State.raise_still _ _)).books b)
  · exact b

theorem State.takePosition_books (h : HeadId) (p : Point) (b : s.oneRequest) : (s.takePosition h p).oneRequest := by
  have arm : ∀ w pa pb, (s.completeArm w pa pb).oneRequest := fun w pa pb => by
    refine ((State.setResult_still _ 0).trans (State.armFrames_still _)).books (State.oneRequest_of_free fun i => ?_)
    simp only [State.socket, Fin.getElem_fin, Vector.getElem_ofFn]
    rfl
  unfold State.takePosition
  split
  · exact b
  · exact b
  · split
    · exact b
    · simp only
      split
      · split
        · exact arm _ _ _
        · exact (State.refuseArm_still s _ _).books b
      · exact State.oneRequest_of_sites b

theorem State.frameWrite_books (f : FrameId) (narrow : Bool) (v : Word) (b : s.oneRequest) : (s.frameWrite f narrow v).oneRequest := by
  have close : (s.acceptClose f).oneRequest := by
    have b' := (State.writeFrameState_still s f .close).books b
    unfold State.acceptClose
    simp only
    split
    · exact b'
    · exact (State.closeFrame_chooses _ f).books b'
  unfold State.frameWrite
  simp only
  split
  · exact (State.refuseFrameWrite_still s f).books b
  · split
    · exact b
    · split
      · exact (State.acceptPosted_still s f).books b
      · split
        · exact close
        · split
          · exact (State.acceptFree_still s f).books b
          · exact (State.refuseFrameWrite_still s f).books b

theorem State.wordWrite_books (a : Nat) (e : BitVec 4) (v : Word) (b : s.oneRequest) : (s.wordWrite a e v).oneRequest := by
  unfold State.wordWrite
  split
  · exact b
  · split
    · exact State.frameWrite_books _ _ _ b
    · exact (State.slotWrite_still s _ _ _).books b
    · exact State.oneRequest_of_sites b

theorem State.takeRequest_books (n : Nat) (b : s.oneRequest) : (s.takeRequest n).oneRequest := by
  have refused := (State.refuseRequest_still s).books b
  unfold State.takeRequest
  split
  · exact b
  · exact (State.requestArm_still s).books b
  · unfold State.requestRun
    split
    · exact (State.runFromHeld_still s).books b
    · exact State.oneRequest_of_sites b
    all_goals exact refused
  · unfold State.requestHold
    split
    · exact (State.enterHolding_chooses _ false).books (State.oneRequest_of_sites b)
    · exact refused
  · unfold State.requestDrain
    split
    · exact State.oneRequest_of_sites b
    · exact ((State.reroute_still _).trans ((State.push_still _ _ rfl).trans (State.push_still _ _ rfl))).books
        (State.oneRequest_of_sites b)
    all_goals exact refused
  · exact State.oneRequest_of_free fun i => by simp [State.socket, State.softReset, State.reset, Socket.reset]
  · exact refused

theorem State.controlWrite_books (n : Nat) (v : BitVec 3) (b : s.oneRequest) : (s.controlWrite n v).oneRequest :=
  State.takeRequest_books n ((State.setRegisters_still s _).books b)

theorem State.registerWrite_books (o : BitVec 5) (e : BitVec 4) (v : Word) (b : s.oneRequest) :
    (s.registerWrite o e v).oneRequest := by
  unfold State.registerWrite
  split
  · split
    · exact State.controlWrite_books _ _ b
    · exact (State.setRegisters_still s _).books b
    · exact (State.setRegisters_still s _).books b
    · exact b
  · exact b

theorem State.wakeHead_books (h : HeadId) (b : s.oneRequest) : (s.wakeHead h).oneRequest := by
  unfold State.wakeHead
  split
  · exact State.oneRequest_of_sites b
  · exact b

theorem State.enterFromHeld_books (b : s.oneRequest) : s.enterFromHeld.oneRequest := by
  have enter : ∀ (t : State) (d : Bool), t.oneRequest →
      (((((if d then t.reroute else t).wakeHead .a).wakeHead .b).push .selectIdle).push .drainTest).oneRequest := by
    intro t d bt
    refine ((State.push_still _ _ rfl).trans (State.push_still _ _ rfl)).books (State.wakeHead_books .b (State.wakeHead_books .a ?_))
    split
    · exact (State.reroute_still t).books bt
    · exact bt
  unfold State.enterFromHeld
  split
  · exact enter _ _ (State.oneRequest_of_sites b)
  · exact b

theorem State.recoveryExpired_books (i : Site) (b : s.oneRequest) : (s.recoveryExpired i).oneRequest := by
  unfold State.recoveryExpired
  split
  · exact ((State.enterStopped_still s i _).trans ((State.setSocket_still _ i _).trans (State.updateRequests_still _ i))).books b
  · have b' := (State.enterStopped_still s i .empty).books b
    simp only
    split
    · unfold State.socketClear
      split
      · split
        · split
          · exact State.oneRequest_of_sites b'
          · exact b'
        · exact b'
      · exact b'
    · exact (State.updateRequests_still _ i).books b'

theorem State.timerExpired_books (i : Site) (b : s.oneRequest) : (s.timerExpired i).oneRequest := by
  unfold State.timerExpired
  split
  · exact ((State.reach_still s _).trans (State.contactExpired_still _ i)).books b
  · exact ((State.reach_still s _).trans (State.eotExpired_still _ i)).books b
  · exact ((State.reach_still s _).trans (State.releaseExpired_still _ i)).books b
  · exact State.recoveryExpired_books i ((State.reach_still s _).books b)
  · exact b

theorem State.timerEvent_books (i : Site) (k : TimerKind) (b : s.oneRequest) : (s.timerEvent i k).oneRequest := by
  unfold State.timerEvent
  split
  · split
    · exact State.timerExpired_books i b
    · exact b
  · exact b

theorem State.runTask_books (x : Task) (b : s.oneRequest) : (s.runTask x).oneRequest := by
  cases x with
  | entered _ | selectIdle | selectHead _ => exact (State.runTask_selects s _ rfl).chooses.books b
  | legEnd h ok => exact (State.legEnded_chooses s h ok).books b
  | runEntry => exact State.enterFromHeld_books b
  | drainTest => exact (State.drainTest_still s).books b
  | expiry i => exact State.timerExpired_books i b
  | hostWord a e v => exact State.wordWrite_books a e v b

theorem cascade_books (n : Nat) (b : s.oneRequest) : (cascade n s).oneRequest := by
  induction n generalizing s with
  | zero => exact b
  | succ n ih =>
    unfold cascade
    split
    · exact ih (State.runTask_books _ (State.oneRequest_of_sites b))
    · exact ih (State.runTask_books _ (State.oneRequest_of_sites b))
    · exact b

theorem State.finish_books (h : s.finish = .next t) (b : s.oneRequest) : t.oneRequest := by
  cases h
  exact cascade_books _ b

/-- Law 9 through every command. -/
theorem exec_books {c : Instr} (h : exec c s = .next t) (b : s.oneRequest) : t.oneRequest := by
  cases c with
  | ready site up => exact State.finish_books h ((State.fromTester_still s _ _ fun i => State.takeReady_still s i up).books b)
  | endOfTest site bin => exact State.finish_books h ((State.fromTester_still s _ _ fun i => State.takeEnd_still s i bin).books b)
  | contactExpiry i => exact State.finish_books h (State.timerEvent_books i _ b)
  | eotWatchdogExpiry i => exact State.finish_books h (State.timerEvent_books i _ b)
  | releaseExpiry i => exact State.finish_books h (State.timerEvent_books i _ b)
  | recoveryExpiry i => exact State.finish_books h (State.timerEvent_books i _ b)
  | arrived g => exact State.finish_books h ((State.takeArrived_chooses s g).books b)
  | actDone g n v => exact State.finish_books h (State.takeActDone_books g n v b)
  | position g x y => exact State.finish_books h (State.takePosition_books g _ b)
  | positionWaitExpiry => exact State.finish_books h ((State.positionWaitOver_still s).books b)
  | vacuumLost g n => exact State.finish_books h (State.takeVacuumLost_books g n b)
  | driveFault f => exact State.finish_books h (State.takeDriveFault_books f b)
  | travelWatchdogExpiry g => exact State.finish_books h (State.travelTimeout_books g b)
  | actionWatchdogExpiry g => exact State.finish_books h (State.actionTimeout_books g b)
  | arm v => exact State.finish_books h (State.controlWrite_books 1 v b)
  | run v => exact State.finish_books h (State.controlWrite_books 2 v b)
  | hold v => exact State.finish_books h (State.controlWrite_books 3 v b)
  | drain v => exact State.finish_books h (State.controlWrite_books 4 v b)
  | reset v => exact State.finish_books h (State.controlWrite_books 5 v b)
  | undefinedRequest _ v => exact State.finish_books h (State.controlWrite_books _ v b)
  | attentionThreshold v => exact State.finish_books h (State.controlWrite_books 0 v b)
  | attentionClear v => exact State.finish_books h ((State.setRegisters_still s _).books b)
  | levels v => exact State.finish_books h ((State.setRegisters_still s _).books b)
  | registerWriteDropped o e v => exact State.finish_books h (State.registerWrite_books o e v b)
  | powerOnReset =>
    exact State.finish_books (s := s.powerOn) h
      (State.oneRequest_of_free fun i => by simp [State.socket, State.powerOn, State.reset, Socket.reset])
  | exchangeMemoryWrite o l =>
    change (if _ then _ else _) = _ at h
    split at h
    · cases h
    · exact State.finish_books (s := { s with trailing := wordTasks o.toNat l ++ s.trailing }) h (State.oneRequest_of_sites b)
  | posted f => exact State.finish_books h (State.frameWrite_books f _ _ b)
  | close f => exact State.finish_books h (State.frameWrite_books f _ _ b)
  | frameFree f => exact State.finish_books h (State.frameWrite_books f _ _ b)
  | frameWriteRefused f e v =>
    refine State.finish_books h ?_
    split
    · exact b
    · exact State.frameWrite_books f _ _ b
  | slotFree k => exact State.finish_books h ((State.slotWrite_still s k _ _).books b)
  | slotWriteRefused k e v =>
    refine State.finish_books h ?_
    split
    · exact b
    · exact (State.slotWrite_still s k _ _).books b

theorem step_books (h : step s = .next t) (b : s.oneRequest) : t.oneRequest := by
  unfold step at h
  split at h
  · cases h
    exact State.oneRequest_of_sites b
  · exact exec_books h (State.oneRequest_of_sites b)

/-! ## Law 11 and the heads at rest -/

theorem State.atRest.legEnds {s : State} (h : s.atRest) : s.legEnds = [] := by rw [State.legEnds, h.1, h.2]; rfl

theorem HeadState.inFlight_iff {st : HeadState} : st.inFlight = true ↔ st = .moving ∨ st = .acting ∨ st = .yielding := by
  cases st <;> simp [HeadState.inFlight]

/-- At a command taken at rest the course is law 11, with the rule of heads at rest under its premise. -/
theorem Course.of_laws {P : Prop} (hr : s.atRest) (l : s.LinkRight) (q : P → s.RestingRight) : Course P s := by
  refine ⟨fun h => ⟨fun e => ?_, l.waiting h, fun e => l.held e h, fun p e => (q p).resting e h, fun p e => (q p).drained e h⟩,
    by rw [hr.legEnds]; simp, fun h ok hm => by rw [hr.legEnds] at hm; cases hm⟩
  rw [HeadState.inFlight_iff, or_assoc, or_assoc]
  exact l.flight h e

theorem Course.linkRight {P : Prop} (c : Course P s) : s.LinkRight := by
  refine ⟨fun h e => ?_, fun h => (c.heads h).waiting, fun e h => (c.heads h).held e⟩
  have := (c.heads h).flight e
  rwa [HeadState.inFlight_iff, or_assoc, or_assoc] at this

theorem Course.restingRight (c : Course True s) : s.RestingRight :=
  ⟨fun e h => (c.heads h).resting trivial e, fun e h => (c.heads h).drained trivial e⟩

/-- A head that is STOPPED outside HALTED has no command, by law 11. -/
theorem State.LinkRight.link_of_not_inFlight (l : s.LinkRight) {h : HeadId} (hs : s.control.state ≠ .halted)
    (hf : (s.head h).state.inFlight = false) : s.link.get h = .empty := by
  by_contra e
  rcases l.flight h e with f | f | f | f
  · rw [f] at hf; cases hf
  · rw [f] at hf; cases hf
  · rw [f] at hf; cases hf
  · exact hs f

/-- A head that is IDLE has no waiting leg, by law 11. -/
theorem State.LinkRight.not_waiting_of_idle (l : s.LinkRight) {h : HeadId} (hi : (s.head h).state = .idle) :
    s.rail.waiting.get h = none := by
  by_contra e
  rcases l.waiting h e with f | f <;> rw [hi] at f <;> cases f

end

end Sys2Proof.Machine

open Sys2Proof Sys2Proof.Machine in
/-- Settles O60: law 9 by each operation's own part of it, law 11 and the heads at rest by the course that every piece of
follow-up work keeps. -/
theorem requestsAndHeldKept : Obligations.RequestsAndHeldKept := by
  refine ⟨fun s t b h => step_books h b, fun c s t hr l h => ?_, fun s l hd h => ?_, fun c s t hr l q h => ?_,
    fun s l q hd h => ?_⟩
  · exact (Course.exec (P := False) (Course.of_laws hr l False.elim) hr.legEnds h).linkRight
  · exact l.link_of_not_inFlight (by rw [hd]; decide) (by rw [l.held hd h]; rfl)
  · exact (Course.exec (Course.of_laws hr l fun _ => q) hr.legEnds h).restingRight
  · have hi := q.drained hd h
    exact ⟨hi, q.resting (by rw [hd]; decide) h (.inr (.inl hi)), l.not_waiting_of_idle hi⟩
end

section
set_option Elab.async false

namespace Sys2Proof.Machine

/-! ## The expiries that are due (log entry 2) -/

theorem Watchdog.isDue_iff (w : Watchdog) (t : Nat) : w.isDue t = true ↔ ∃ e, w = .running e ∧ e ≤ t := by
  cases w <;> simp [Watchdog.isDue]

theorem State.dueTimer_eq_expiry (s : State) (i j : Site) (k : TimerKind) :
    s.dueTimer j = some (k.expiry i) ↔ j = i ∧ ∃ e d : Nat, (s.socket i).timer = .running k e d ∧ e ≤ s.time := by
  unfold State.dueTimer
  constructor
  · split
    · next k' e d ht =>
      intro h
      split at h
      · next hle =>
        have hk : k' = k ∧ j = i := by
          cases k' <;> cases k <;> simp_all [TimerKind.expiry]
        obtain ⟨rfl, rfl⟩ := hk
        exact ⟨rfl, e, d, ht, hle⟩
      · cases h
    · rintro ⟨⟩
  · rintro ⟨rfl, e, d, ht, hle⟩
    simp [ht, hle]

theorem State.dueTimer_shape {s : State} {j : Site} {c : Instr} (h : s.dueTimer j = some c) :
    ∃ k : TimerKind, c = k.expiry j := by
  unfold State.dueTimer at h
  split at h
  · next k e d _ =>
    split at h
    · exact ⟨k, (Option.some.inj h).symm⟩
    · cases h
  · cases h

theorem State.dueWatchdog_eq_travel (s : State) (g h : HeadId) :
    s.dueWatchdog g = some (.travelWatchdogExpiry h) ↔
      g = h ∧ ∃ (x y : Nat) (px py : Fin 4) (e : Nat), s.link.get h = .travel x y px py (.running e) ∧ e ≤ s.time := by
  unfold State.dueWatchdog
  constructor
  · split
    · rintro ⟨⟩
    · next x y px py w hw =>
      intro he
      split at he
      · next hd =>
        obtain ⟨e, rfl, hle⟩ := (Watchdog.isDue_iff _ _).1 hd
        cases he
        exact ⟨rfl, x, y, px, py, e, hw, hle⟩
      · cases he
    · intro he
      split at he <;> cases he
  · rintro ⟨rfl, x, y, px, py, e, hw, hle⟩
    simp [hw, Watchdog.isDue, hle]

theorem State.dueWatchdog_eq_action (s : State) (g h : HeadId) :
    s.dueWatchdog g = some (.actionWatchdogExpiry h) ↔
      g = h ∧ ∃ (k : Nozzle) (a : Action) (n e : Nat), s.link.get h = .act k a n (.running e) ∧ e ≤ s.time := by
  unfold State.dueWatchdog
  constructor
  · split
    · rintro ⟨⟩
    · intro he
      split at he <;> cases he
    · next k a n w hw =>
      intro he
      split at he
      · next hd =>
        obtain ⟨e, rfl, hle⟩ := (Watchdog.isDue_iff _ _).1 hd
        cases he
        exact ⟨rfl, k, a, n, e, hw, hle⟩
      · cases he
  · rintro ⟨rfl, k, a, n, e, hw, hle⟩
    simp [hw, Watchdog.isDue, hle]

theorem State.dueWatchdog_shape {s : State} {g : HeadId} {c : Instr} (h : s.dueWatchdog g = some c) :
    c = .travelWatchdogExpiry g ∨ c = .actionWatchdogExpiry g := by
  unfold State.dueWatchdog at h
  split at h
  · cases h
  · split at h
    · exact .inl (Option.some.inj h).symm
    · cases h
  · split at h
    · exact .inr (Option.some.inj h).symm
    · cases h

theorem State.dueWait_eq (s : State) (c : Instr) :
    s.dueWait = some c ↔ c = .positionWaitExpiry ∧ ∃ w : ArmWait, s.control.arming = some w ∧ w.expiry ≤ s.time := by
  unfold State.dueWait
  split
  · next hn => simp [hn]
  · next w hw =>
    by_cases hle : w.expiry ≤ s.time
    · simp [hw, hle, eq_comm]
    · simp [hw, hle]

theorem State.mem_due (s : State) (c : Instr) :
    c ∈ s.due ↔ (∃ i, s.dueTimer i = some c) ∨ (∃ h, s.dueWatchdog h = some c) ∨ s.dueWait = some c := by
  have heads : (∃ h ∈ [HeadId.a, HeadId.b], s.dueWatchdog h = some c) ↔ ∃ h, s.dueWatchdog h = some c :=
    ⟨fun ⟨h, _, e⟩ => ⟨h, e⟩, fun ⟨h, e⟩ => ⟨h, by cases h <;> simp, e⟩⟩
  simp only [State.due, List.mem_append, List.mem_filterMap, heads, Option.mem_toList, allSites, List.mem_finRange, true_and,
    or_assoc]

theorem State.timer_mem_due (s : State) (i : Site) (k : TimerKind) :
    k.expiry i ∈ s.due ↔ ∃ e d : Nat, (s.socket i).timer = .running k e d ∧ e ≤ s.time := by
  have hd : ∀ h, s.dueWatchdog h ≠ some (k.expiry i) := fun h e => by
    rcases State.dueWatchdog_shape e with e | e <;> cases k <;> cases e
  have hw : s.dueWait ≠ some (k.expiry i) := fun e => by
    have := ((s.dueWait_eq _).1 e).1
    cases k <;> cases this
  simp [State.mem_due, State.dueTimer_eq_expiry, hd, hw]

theorem State.travel_mem_due (s : State) (h : HeadId) :
    Instr.travelWatchdogExpiry h ∈ s.due ↔
      ∃ (x y : Nat) (px py : Fin 4) (e : Nat), s.link.get h = .travel x y px py (.running e) ∧ e ≤ s.time := by
  have ht : ∀ i, s.dueTimer i ≠ some (.travelWatchdogExpiry h) := fun i e => by
    obtain ⟨k, e⟩ := State.dueTimer_shape e
    cases k <;> cases e
  have hw : s.dueWait ≠ some (.travelWatchdogExpiry h) := fun e => nomatch ((s.dueWait_eq _).1 e).1
  simp [State.mem_due, State.dueWatchdog_eq_travel, ht, hw]

theorem State.action_mem_due (s : State) (h : HeadId) :
    Instr.actionWatchdogExpiry h ∈ s.due ↔
      ∃ (k : Nozzle) (a : Action) (n e : Nat), s.link.get h = .act k a n (.running e) ∧ e ≤ s.time := by
  have ht : ∀ i, s.dueTimer i ≠ some (.actionWatchdogExpiry h) := fun i e => by
    obtain ⟨k, e⟩ := State.dueTimer_shape e
    cases k <;> cases e
  have hw : s.dueWait ≠ some (.actionWatchdogExpiry h) := fun e => nomatch ((s.dueWait_eq _).1 e).1
  simp [State.mem_due, State.dueWatchdog_eq_action, ht, hw]

theorem State.wait_mem_due (s : State) :
    Instr.positionWaitExpiry ∈ s.due ↔ ∃ w : ArmWait, s.control.arming = some w ∧ w.expiry ≤ s.time := by
  have ht : ∀ i, s.dueTimer i ≠ some .positionWaitExpiry := fun i e => by
    obtain ⟨k, e⟩ := State.dueTimer_shape e
    cases k <;> cases e
  have hd : ∀ h, s.dueWatchdog h ≠ some .positionWaitExpiry := fun h e => by
    rcases State.dueWatchdog_shape e with e | e <;> cases e
  simp [State.mem_due, State.dueWait_eq, ht, hd]

end Sys2Proof.Machine

open Sys2Proof Sys2Proof.Machine in
/-- Settles O2: the queue of the ticked state is the list of due expiries, read kind by kind. -/
theorem tickOnEmptyQueue : Obligations.TickOnEmptyQueue := by
  intro s hp
  have hs : step s = .next s.idle := by simp [step, hp]
  exact ⟨s.idle, hs, rfl, s.tick.timer_mem_due, s.tick.travel_mem_due, s.tick.action_mem_due, s.tick.wait_mem_due⟩
end

section
set_option Elab.async false

namespace Sys2Proof.Machine

/-! ## What reaches the site controller: tester messages and expiries (R1, R3, R5) -/

variable (s : State)

theorem State.isIn_eq_false {s : State} {d : DeviceState} (h : s.control.state ≠ d) : s.isIn d = false := by
  simpa [State.isIn] using h

theorem State.isIn_eq_true {s : State} {d : DeviceState} (h : s.control.state = d) : s.isIn d = true := by
  simpa [State.isIn] using h

theorem State.fromTester_of_discarded (site : Nat) (f : Site → State) (h : 32 ≤ site ∨ s.control.state = .unarmed) :
    s.fromTester site f = s := by
  unfold State.fromTester
  split
  · next hlt =>
    rcases h with h | h
    · omega
    · rw [State.isIn_eq_true h]; rfl
  · rfl

theorem State.fromTester_of_site (i : Site) (f : Site → State) (h : s.control.state ≠ .unarmed) :
    s.fromTester i.val f = f i := by
  unfold State.fromTester
  rw [dif_pos i.isLt, State.isIn_eq_false h]
  rfl

theorem exec_ready (i : Site) (up : Bool) (h : s.control.state ≠ .unarmed) :
    exec (.ready i.val up) s = (s.takeReady i up).finish :=
  congrArg State.finish (s.fromTester_of_site i _ h)

theorem exec_endOfTest (i : Site) (bin : Byte) (h : s.control.state ≠ .unarmed) :
    exec (.endOfTest i.val bin) s = (s.takeEnd i bin).finish :=
  congrArg State.finish (s.fromTester_of_site i _ h)

theorem exec_expiry (i : Site) (k : TimerKind) : exec (k.expiry i) s = (s.timerEvent i k).finish := by
  cases k <;> rfl

theorem State.timerEvent_of_other (i : Site) (k : TimerKind) (h : ∀ e d : Nat, (s.socket i).timer ≠ .running k e d) :
    s.timerEvent i k = s := by
  unfold State.timerEvent
  split
  · next k' e d ht => exact if_neg fun hk => h e d (by rw [ht, hk])
  · rfl

theorem State.timerEvent_of_running {s : State} {i : Site} {k : TimerKind} {e d : Nat}
    (h : (s.socket i).timer = .running k e d) : s.timerEvent i k = s.timerExpired i := by
  simp [State.timerEvent, h]

/-! ## Commands that match nothing (R111, R119, R120, R126, R166) -/

theorem State.takeArrived_of_other (h : HeadId) (hl : ∀ (x y : Nat) (px py : Fin 4) (w : Watchdog),
    s.link.get h ≠ .travel x y px py w) : s.takeArrived h = s := by
  unfold State.takeArrived
  split
  · next e => exact absurd e (hl _ _ _ _ _)
  · rfl

theorem State.travelTimeout_of_other (h : HeadId) (hl : ∀ (x y : Nat) (px py : Fin 4) (w : Watchdog),
    s.link.get h ≠ .travel x y px py w) : s.travelTimeout h = s := by
  unfold State.travelTimeout
  split
  · next e => exact absurd e (hl _ _ _ _ _)
  · rfl

theorem State.takeActDone_of_other (h : HeadId) (k : Nozzle) (v : Bool) (hl : ∀ (a : Action) (n : Nat) (w : Watchdog),
    s.link.get h ≠ .act k a n w) : s.takeActDone h k v = s := by
  unfold State.takeActDone
  split
  · next e => exact if_neg fun hk => hl _ _ _ (hk ▸ e)
  · rfl

theorem State.actionTimeout_of_other (h : HeadId) (hl : ∀ (k : Nozzle) (a : Action) (n : Nat) (w : Watchdog),
    s.link.get h ≠ .act k a n w) : s.actionTimeout h = s := by
  unfold State.actionTimeout
  split
  · next e => exact absurd e (hl _ _ _ _)
  · rfl

theorem State.positionWaitOver_of_none (h : s.control.arming = none) : s.positionWaitOver = s := by
  simp [State.positionWaitOver, h]

theorem State.takePosition_of_none (h : HeadId) (p : Point) (ha : s.control.arming = none) : s.takePosition h p = s := by
  unfold State.takePosition
  split
  · rfl
  · rfl
  · next e => rw [ha] at e; cases e

theorem State.takeDriveFault_of_unarmed (t : FaultTarget) (h : s.control.state = .unarmed) : s.takeDriveFault t = s := by
  simp [State.takeDriveFault, State.isIn_eq_true h]

theorem State.takeVacuumLost_of_unarmed (h : HeadId) (k : Nozzle) (hu : s.control.state = .unarmed) :
    s.takeVacuumLost h k = s := by
  unfold State.takeVacuumLost
  split
  · rfl
  · rw [State.isIn_eq_true hu]; rfl

end Sys2Proof.Machine

open Sys2Proof Sys2Proof.Machine in
/-- Settles O4: each event finds no match and leaves the state, which is at rest. -/
theorem eventsDiscarded : Obligations.EventsDiscarded := by
  intro s hr
  have keep : ∀ t : State, t = s → t.finish = .next s := fun t e => by rw [e]; exact s.finish_rest hr
  refine ⟨fun site up bin h => ⟨keep _ (s.fromTester_of_discarded site _ h), keep _ (s.fromTester_of_discarded site _ h)⟩,
    fun h hl => ⟨keep _ (s.takeArrived_of_other h hl), keep _ (s.travelTimeout_of_other h hl)⟩,
    fun h k v hl => keep _ (s.takeActDone_of_other h k v hl),
    fun h hl => keep _ (s.actionTimeout_of_other h hl),
    fun ha => ⟨keep _ (s.positionWaitOver_of_none ha), fun h x y => keep _ (s.takePosition_of_none h ⟨x, y⟩ ha)⟩,
    fun hu => ⟨fun t => keep _ (s.takeDriveFault_of_unarmed t hu), fun h k => keep _ (s.takeVacuumLost_of_unarmed h k hu)⟩,
    fun i k hk => ?_⟩
  rw [exec_expiry]
  exact keep _ (s.timerEvent_of_other i k hk)
end

section
set_option Elab.async false

namespace Sys2Proof.Machine

/-! ## The socket records written in turn, and the timers that start (R3) -/

variable (s : State)

@[simp] theorem State.setSocket_setSocket (i : Site) (a b : Socket) :
    (s.setSocket i a).setSocket i b = s.setSocket i b := by
  simp [State.setSocket]

@[simp] theorem State.setSocket_self (i : Site) : s.setSocket i (s.socket i) = s := by
  simp [State.setSocket, State.socket]

theorem State.setRequest_of_eq {s : State} {i : Site} {r : Option Request} (h : s.request i = r) : s.setRequest i r = s := by
  subst h
  simp [State.setRequest, State.request]

@[simp] theorem State.request_setRequest_self (i : Site) (r : Option Request) : (s.setRequest i r).request i = r := by
  simp [State.request_setRequest]

theorem State.newTimer_endOfTest (i : Site) :
    s.newTimer i .endOfTest =
      if (s.profile i).endOfTest = 0 then .stopped
      else .running .endOfTest (s.time + (s.profile i).endOfTest * 1000000) ((s.profile i).endOfTest * 1000000) := by
  have hd : timerDuration (s.profile i) .endOfTest = (s.profile i).endOfTest * 1000000 := rfl
  have hz : (s.profile i).endOfTest * 1000000 = 0 ↔ (s.profile i).endOfTest = 0 := by omega
  simp only [State.newTimer, hd, hz, true_and]

/-- What depends on the shadow copies alone. -/
theorem State.profile_congr {s t : State} (h : t.shadow = s.shadow) (i : Site) : t.profile i = s.profile i := by
  simp [State.profile, State.siteCfg, State.cfg, h]

theorem exec_of_running {s : State} {i : Site} {k : TimerKind} {e d : Nat} (h : (s.socket i).timer = .running k e d) :
    exec (k.expiry i) s = (s.timerExpired i).finish := by
  rw [exec_expiry, State.timerEvent_of_running h]

theorem State.newTimer_endOfTest_ne (i : Site) (k : TimerKind) (e : Nat) : s.newTimer i .endOfTest ≠ .running k e 0 := by
  rw [State.newTimer_endOfTest]
  generalize (s.profile i).endOfTest = d
  split
  · exact fun h => Timer.noConfusion h
  · next h => exact fun he => h ((Nat.mul_eq_zero.1 (Timer.running.inj he).2.2).resolve_right (by decide))

theorem State.enterTimed_of_lasting (i : Site) (st : SocketState) (k : TimerKind)
    (h : ∀ k' e, s.newTimer i k ≠ .running k' e 0) :
    s.enterTimed i st k = s.setSocket i { s.socket i with state := st, timer := s.newTimer i k } := by
  unfold State.enterTimed
  simp only

theorem State.enterTimed_endOfTest (i : Site) (st : SocketState) :
    s.enterTimed i st .endOfTest = s.setSocket i { s.socket i with state := st, timer := s.newTimer i .endOfTest } :=
  s.enterTimed_of_lasting i st _ (s.newTimer_endOfTest_ne i)

/-- An expiry of the site taken directly after the event, when the duration is 0 (R3). -/
def State.direct (s : State) (i : Site) (d : Nat) : State := if d = 0 then s.pushTrailing (.expiry i) else s

/-- A socket enters a state of a timed cycle: the timer runs from now, and a duration of 0 ends it directly after (R3). -/
theorem State.enterTimed_cycle (i : Site) (st : SocketState) {k : TimerKind} (hk : k ≠ .endOfTest) :
    s.enterTimed i st k = (s.setSocket i { s.socket i with
        state := st
        timer := .running k (s.time + timerDuration (s.profile i) k) (timerDuration (s.profile i) k) }).direct i
      (timerDuration (s.profile i) k) := by
  have ht : s.newTimer i k =
      .running k (s.time + timerDuration (s.profile i) k) (timerDuration (s.profile i) k) := by
    simp [State.newTimer, hk]
  unfold State.enterTimed State.direct
  rw [ht]
  simp only
  split
  · next e => simp only [Timer.running.injEq] at e; rw [if_pos e.2.2, e.2.2]
  · next h =>
    rw [if_neg fun h0 => h _ _ (by rw [h0])]

theorem State.direct_zero (i : Site) : s.direct i 0 = s.pushTrailing (.expiry i) := rfl

theorem State.direct_of_ne (i : Site) {d : Nat} (h : d ≠ 0) : s.direct i d = s := if_neg h

/-- What neither reads nor writes the trailing work can be done before it is added. -/
theorem State.apply_direct (f : State → State) (i : Site) (d : Nat) (h : f (s.pushTrailing (.expiry i)) = (f s).pushTrailing (.expiry i)) :
    f (s.direct i d) = (f s).direct i d := by
  unfold State.direct
  split
  · exact h
  · rfl

@[simp] theorem State.socket_direct (i j : Site) (d : Nat) : (s.direct i d).socket j = s.socket j := by
  unfold State.direct; split <;> rfl

theorem State.setSocket_direct (i j : Site) (d : Nat) (r : Socket) :
    (s.direct i d).setSocket j r = (s.setSocket j r).direct i d :=
  s.apply_direct (fun s => s.setSocket j r) i d rfl

/-! ## START (R6) -/

/-- What a START leaves for the socket's unit with the serial. -/
def State.started (s : State) (i : Site) (serial : Word) : State :=
  ((s.send (.start i serial)).setTest i { isOpen := true, serial := serial, late := .none }).setSocket i
    { s.socket i with state := .testing, start := s.time, timer := s.newTimer i .endOfTest }

theorem State.serialOf_eq {s : State} {o : Option Handle} {u : Handle} {r : UnitRecord} (ho : o = some u)
    (hr : s.unit u = some r) : s.serialOf o = some r.serial := by
  simp [State.serialOf, ho, hr]

theorem State.sendStart_eq {s : State} {i : Site} {u : Handle} {r : UnitRecord} (hu : (s.socket i).unit = some u)
    (hr : s.unit u = some r) : s.sendStart i = s.started i r.serial := by
  unfold State.sendStart
  rw [State.serialOf_eq hu hr, State.enterTimed_endOfTest, State.socket_setSocket_self, State.setSocket_setSocket]
  rfl

theorem State.takeReady_up_of_seated {i : Site} (h : (s.socket i).state = .seated) :
    s.takeReady i true =
      if (s.socket i).timer = .expired ∧ s.isIn .halted = false then
        (s.setSocket i { s.socket i with ready := true }).sendStart i
      else s.setSocket i { s.socket i with ready := true } := by
  unfold State.takeReady
  simp only [State.socket_setSocket_self, h]
  rfl

theorem State.takeReady_down_of_seated {i : Site} (h : (s.socket i).state = .seated) :
    s.takeReady i false = s.setSocket i { s.socket i with ready := false } := by
  unfold State.takeReady
  simp only [State.socket_setSocket_self, h]

theorem State.timerExpired_contact {s : State} {i : Site} {e d : Nat} (h : (s.socket i).state = .seated)
    (ht : (s.socket i).timer = .running .contact e d) : s.timerExpired i = (s.reach e).contactExpired i := by
  simp [State.timerExpired, h, ht]

theorem State.atRest.setSocket {s : State} (h : s.atRest) (i : Site) (r : Socket) : (s.setSocket i r).atRest := h

theorem State.atRest.started {s : State} (h : s.atRest) (i : Site) (w : Word) : (s.started i w).atRest := h

theorem State.atRest.reach {s : State} (h : s.atRest) (e : Nat) : (s.reach e).atRest := h

end Sys2Proof.Machine

open Sys2Proof Sys2Proof.Machine in
/-- Settles O5: the two events that can bring START about, each with the ready flag, the contact timer and HALTED judged. -/
theorem startRule : Obligations.StartRule := by
  intro s i u r hr hu hst hunit hrec limit started
  have same (t : State) (k : Socket) (ht : t.sites = s.sites) (hu : t.units = s.units) (hc : t.shadow = s.shadow)
      (hk : k = { s.socket i with ready := true, timer := k.timer }) :
      (t.setSocket i k).sendStart i = started t := by
    have hrec' : (t.setSocket i k).unit u = some r := by
      simpa [State.unit, hu] using hrec
    have hunit' : ((t.setSocket i k).socket i).unit = some u := by
      rw [State.socket_setSocket_self, hk]; exact hunit
    rw [State.sendStart_eq hunit' hrec']
    unfold State.started
    rw [State.socket_setSocket_self, State.newTimer_endOfTest, State.profile_congr (s := s) (t := t.setSocket i k) hc, hk]
    exact State.setSocket_setSocket ((t.send _).setTest _ _) i _ _
  refine ⟨fun hexp => ⟨fun hh => ?_, fun hh => ?_⟩, fun e d hrun => ⟨?_, fun hready hh => ?_, fun hno => ?_⟩, ?_⟩
  · rw [exec_ready s i true hu, s.takeReady_up_of_seated hst, if_pos ⟨hexp, State.isIn_eq_false hh⟩,
      same s _ rfl rfl rfl rfl]
    exact State.finish_rest _ hr
  · rw [exec_ready s i true hu, s.takeReady_up_of_seated hst, if_neg fun h => by simp [State.isIn_eq_true hh] at h]
    exact State.finish_rest _ hr
  · rw [exec_ready s i true hu, s.takeReady_up_of_seated hst, if_neg fun h => by rw [hrun] at h; cases h.1]
    exact State.finish_rest _ hr
  · refine (exec_of_running hrun).trans ?_
    rw [State.timerExpired_contact hst hrun]
    unfold State.contactExpired
    simp only [State.socket_setSocket_self]
    rw [if_pos ⟨hready, State.isIn_eq_false hh⟩, same (s.reach e) _ rfl rfl rfl (by rw [← hready]; rfl)]
    exact State.finish_rest _ hr
  · refine (exec_of_running hrun).trans ?_
    rw [State.timerExpired_contact hst hrun]
    unfold State.contactExpired
    simp only [State.socket_setSocket_self]
    rw [if_neg]
    · exact State.finish_rest _ hr
    · rintro ⟨h, hh⟩
      rcases hno with hn | hn
      · exact absurd (h.symm.trans hn) (by decide)
      · exact absurd (hh.symm.trans (State.isIn_eq_true hn)) (by decide)
  · rw [exec_ready s i false hu, s.takeReady_down_of_seated hst]
    exact State.finish_rest _ hr
end

section
set_option Elab.async false

namespace Sys2Proof.Machine

/-! ## Service requests (R19, R20) -/

variable (s : State)

/-- The request that R19 leaves pending at a site that is not bound: the wanted one, with the raise time of the pending one. -/
def State.requestLeft (s : State) (i : Site) : Option Request :=
  (s.wanted i).map fun q => { kind := q, raised := ((s.request i).map Request.raised).getD s.time }

theorem State.updateRequests_of_bound {s : State} {i : Site} (h : (s.socket i).bound ≠ none) : s.updateRequests i = s := by
  unfold State.updateRequests
  split
  · rfl
  · next e => exact absurd e h

/-- A request raised where none was pending is follow-up work; every other change is made in place. -/
theorem State.updateRequests_of_raised {s : State} {i : Site} {q : RequestKind} (hb : (s.socket i).bound = none)
    (hr : s.request i = none) (hw : s.wanted i = some q) :
    s.updateRequests i = (s.setRequest i (some { kind := q, raised := s.time })).push (.entered i) := by
  unfold State.updateRequests
  simp only [hb, hr, hw]

theorem State.updateRequests_of_kept {s : State} {i : Site} (hb : (s.socket i).bound = none)
    (h : s.request i ≠ none ∨ s.wanted i = none) : s.updateRequests i = s.setRequest i (s.requestLeft i) := by
  unfold State.updateRequests State.requestLeft
  simp only [hb]
  split
  · next hr hw => exact absurd hr (h.resolve_right (by rw [hw]; simp))
  · next r q hr hw =>
    rw [hr, hw]
    split
    · next hk => exact (State.setRequest_of_eq (by rw [hr, ← hk]; rfl)).symm
    · rfl
  · next hr hw => rw [hr, hw]; rfl
  · next hr hw => rw [hr, hw]; exact (State.setRequest_of_eq hr).symm

/-- Outside the follow-up work, what R19 leaves at a site that is not bound. -/
theorem State.updateRequests_eq {s : State} {i : Site} (hb : (s.socket i).bound = none) :
    s.updateRequests i = { s.setRequest i (s.requestLeft i) with agenda := (s.updateRequests i).agenda } := by
  by_cases h : s.request i ≠ none ∨ s.wanted i = none
  · rw [State.updateRequests_of_kept hb h]
  · push Not at h
    obtain ⟨q, hq⟩ := Option.ne_none_iff_exists'.1 h.2
    rw [State.updateRequests_of_raised hb h.1 hq]
    simp [State.requestLeft, h.1, hq, State.push]

theorem State.updateRequests_agenda_of_kept {s : State} {i : Site} (h : s.request i ≠ none ∨ s.wanted i = none) :
    (s.updateRequests i).agenda = s.agenda := by
  by_cases hb : (s.socket i).bound = none
  · rw [State.updateRequests_of_kept hb h]; rfl
  · rw [State.updateRequests_of_bound hb]

theorem State.updateRequests_agenda {s : State} {i : Site} :
    (s.updateRequests i).agenda = s.agenda ∨ (s.updateRequests i).agenda = s.agenda ++ [.entered i] := by
  by_cases h : s.request i ≠ none ∨ s.wanted i = none
  · exact .inl (State.updateRequests_agenda_of_kept h)
  · by_cases hb : (s.socket i).bound = none
    · push Not at h
      obtain ⟨q, hq⟩ := Option.ne_none_iff_exists'.1 h.2
      exact .inr (by rw [State.updateRequests_of_raised hb h.1 hq]; rfl)
    · exact .inl (by rw [State.updateRequests_of_bound hb])

/-- With no head to take it, what R19 does is all that an event of one site leaves. -/
theorem State.updateRequests_cascade {s : State} {i : Site} (n : Nat) (hr : s.atRest) (hn : s.noTakers)
    (hb : (s.socket i).bound = none) : cascade (n + 1) (s.updateRequests i) = s.setRequest i (s.requestLeft i) := by
  have he := State.updateRequests_eq (i := i) hb
  have ha : (s.updateRequests i).agenda = [] ∨ (s.updateRequests i).agenda = [.entered i] := by
    simpa [hr.1] using State.updateRequests_agenda (s := s) (i := i)
  rw [cascade_quiet (n + 1) (s.updateRequests i) (by rw [he]; exact hn) (by rw [he]; exact hr.2)
    (fun t ht => by rcases ha with ha | ha <;> simp_all [Task.isSelection])
    (by rcases ha with ha | ha <;> simp [ha])]
  rw [he]
  simp only
  rw [show ([] : List Task) = (s.setRequest i (s.requestLeft i)).agenda from hr.1.symm]

theorem State.finish_eq_cascade : s.finish = .next (cascade (99999998 + 1 + 1) s) := rfl

theorem State.updateRequests_finish {s : State} {i : Site} (hr : s.atRest) (hn : s.noTakers)
    (hb : (s.socket i).bound = none) : (s.updateRequests i).finish = .next (s.setRequest i (s.requestLeft i)) := by
  rw [State.finish_eq_cascade, State.updateRequests_cascade _ hr hn hb]

theorem State.wanted_of_empty {s : State} {i : Site} (h : (s.socket i).state = .empty) :
    s.wanted i = if (s.socket i).stop = .none ∧ (s.siteCfg i).level ≠ 0 ∧ (s.socket i).ready = true then some .load else none := by
  simp [State.wanted, wantedRequest, h]

theorem State.wanted_of_unloadReady {s : State} {i : Site} (h : (s.socket i).state = .unloadReady) :
    s.wanted i = some (if (s.socket i).stop = .none ∧ (s.siteCfg i).level ≠ 0 then .swap else .unload) := by
  simp [State.wanted, wantedRequest, h, apply_ite some]

theorem State.wanted_eq (i : Site) :
    s.wanted i =
      if (s.socket i).state = .unloadReady then
        if (s.socket i).stop = .none ∧ (s.siteCfg i).level ≠ 0 then some .swap else some .unload
      else if (s.socket i).state = .empty ∧ (s.socket i).stop = .none ∧ (s.siteCfg i).level ≠ 0 ∧ (s.socket i).ready = true then
        some .load
      else none := by
  unfold State.wanted wantedRequest
  cases (s.socket i).state <;> simp

theorem State.wanted_of_other {s : State} {i : Site} (h : (s.socket i).state ≠ .unloadReady) (h' : (s.socket i).state ≠ .empty) :
    s.wanted i = none := by
  rw [State.wanted_eq, if_neg h, if_neg fun c => h' c.1]

/-- A wanted request of a dissolved job goes back as follow-up work (R20, R74). -/
theorem State.entered_mem_unbindReturn {s : State} {i : Site} (raised : Nat) (h : s.wanted i ≠ none) :
    Task.entered i ∈ (s.unbindReturn i raised).agenda := by
  obtain ⟨q, hq⟩ := Option.ne_none_iff_exists'.1 h
  unfold State.unbindReturn
  have hw : (s.setSocket i { s.socket i with bound := none }).wanted i = some q := by
    rw [← hq]
    unfold State.wanted
    rw [State.socket_setSocket_self]
    rfl
  simp only [hw]
  exact List.mem_append_right _ (List.mem_singleton.2 rfl)

end Sys2Proof.Machine
end

section
set_option Elab.async false

namespace Sys2Proof.Machine

/-! ## What a leg's release takes away (R72, R74)

`Frees`: claims, strip reservations and reserved marks only go, and follow-up work is only added behind. `Releases`: and
neither a socket nor a unit record nor a record of the planner changes. -/

/-- Nothing is claimed, reserved or marked that was not so before. -/
structure Frees (s t : State) : Prop where
  shadow : t.shadow = s.shadow
  agenda : ∃ l : List Task, t.agenda = s.agenda ++ l
  claims : ∀ p : Fin 16, (∀ e ∈ s.units.retest, e.pocket = p → e.claim = none) →
    ∀ e ∈ t.units.retest, e.pocket = p → e.claim = none
  strips : ∀ (p : Fin 16) (h : HeadId), (s.stripPocket p).reservation ≠ some h → (t.stripPocket p).reservation ≠ some h
  marks : ∀ (f : FrameId) (i : Nat) (h : HeadId), (s.frame f).mark i ≠ .reserved h → (t.frame f).mark i ≠ .reserved h

/-- What a leg held is released. -/
structure Releases (s t : State) : Prop extends Frees s t where
  sites : t.sites = s.sites
  planner : t.planner = s.planner
  records : t.units.records = s.units.records
  flags : ∀ b : Nat, s.regs.attention.getLsbD b = true → t.regs.attention.getLsbD b = true

theorem Frees.refl (s : State) : Frees s s := ⟨rfl, ⟨[], (List.append_nil _).symm⟩, fun _ => id, fun _ _ => id, fun _ _ _ => id⟩

theorem Frees.trans {s t u : State} (h : Frees s t) (k : Frees t u) : Frees s u := by
  obtain ⟨l, hl⟩ := h.agenda
  obtain ⟨m, hm⟩ := k.agenda
  exact ⟨k.shadow.trans h.shadow, ⟨l ++ m, by rw [hm, hl, List.append_assoc]⟩, fun p => k.claims p ∘ h.claims p,
    fun p g => k.strips p g ∘ h.strips p g, fun f i g => k.marks f i g ∘ h.marks f i g⟩

theorem Frees.foldl {α : Type} (f : State → α → State) (h : ∀ s a, Frees s (f s a)) (l : List α) (s : State) :
    Frees s (l.foldl f s) := by
  induction l generalizing s with
  | nil => exact Frees.refl s
  | cons a l ih => exact (h s a).trans (ih _)

theorem Frees.mem_agenda {s t : State} (h : Frees s t) {x : Task} (hx : x ∈ s.agenda) : x ∈ t.agenda := by
  obtain ⟨l, hl⟩ := h.agenda
  rw [hl]
  exact List.mem_append_left _ hx

theorem Releases.refl (s : State) : Releases s s := ⟨Frees.refl s, rfl, rfl, rfl, fun _ => id⟩

theorem Releases.trans {s t u : State} (h : Releases s t) (k : Releases t u) : Releases s u :=
  ⟨h.toFrees.trans k.toFrees, k.sites.trans h.sites, k.planner.trans h.planner, k.records.trans h.records,
    fun b => k.flags b ∘ h.flags b⟩

/-- A change outside the retest list, the strip, the frames and the follow-up work. -/
theorem Frees.of_same {s t : State} (hc : t.shadow = s.shadow := by rfl) (ha : t.agenda = s.agenda := by rfl)
    (hr : t.units.retest = s.units.retest := by rfl) (hs : t.units.strip = s.units.strip := by rfl)
    (hf : t.trays.frames = s.trays.frames := by rfl) : Frees s t := by
  have strip : ∀ p, t.stripPocket p = s.stripPocket p := fun p => by rw [State.stripPocket, hs]; rfl
  have frame : ∀ f, t.frame f = s.frame f := fun f => by rw [State.frame, hf]; rfl
  exact ⟨hc, ⟨[], by rw [ha, List.append_nil]⟩, fun p h => by rwa [hr], fun p h => by rw [strip]; exact id,
    fun f i h => by rw [frame]; exact id⟩

/-- A change of memory, messages or other fields of no planner. -/
theorem Releases.of_same {s t : State} (hc : t.shadow = s.shadow := by rfl) (ha : t.agenda = s.agenda := by rfl)
    (hu : t.units = s.units := by rfl) (hf : t.trays.frames = s.trays.frames := by rfl) (hs : t.sites = s.sites := by rfl)
    (hp : t.planner = s.planner := by rfl) (hr : t.regs = s.regs := by rfl) : Releases s t :=
  ⟨Frees.of_same hc ha (by rw [hu]) (by rw [hu]) hf, hs, hp, by rw [hu], fun b h => by rwa [hr]⟩

section
variable (s : State)

theorem State.push_releases (x : Task) : Releases s (s.push x) :=
  ⟨⟨rfl, ⟨[x], rfl⟩, fun _ => id, fun _ _ => id, fun _ _ _ => id⟩, rfl, rfl, rfl, fun _ => id⟩

theorem State.setFlag_attention (c : AttentionClass) :
    (s.setFlag c).regs.attention = s.regs.attention ||| (1#6 <<< c.bit) := by simp [State.setFlag]

theorem State.setFlag_releases (c : AttentionClass) : Releases s (s.setFlag c) :=
  ⟨Frees.of_same (by simp) (by simp) (by simp) (by simp) (by simp), by simp, by simp, by simp, fun b h => by
    rw [State.setFlag_attention, BitVec.getLsbD_or, h, Bool.true_or]⟩

theorem State.setClaim_releases (p : Fin 16) : Releases s (s.setClaim p none) := by
  refine ⟨⟨rfl, ⟨[], (List.append_nil _).symm⟩, fun q hq e he hp => ?_, fun _ _ => id, fun _ _ _ => id⟩, rfl, rfl, rfl, fun _ => id⟩
  obtain ⟨x, hx, rfl⟩ := List.mem_map.1 (show e ∈ s.units.retest.map _ from he)
  split
  · rfl
  · next hn => rw [if_neg hn] at hp; exact hq x hx hp

theorem State.setClaim_free (p : Fin 16) : ∀ e ∈ (s.setClaim p none).units.retest, e.pocket = p → e.claim = none := by
  intro e he hp
  obtain ⟨x, hx, rfl⟩ := List.mem_map.1 (show e ∈ s.units.retest.map _ from he)
  split
  · rfl
  · next hn => rw [if_neg hn] at hp; exact absurd hp hn

theorem State.setStrip_releases (p : Fin 16) (r : StripPocket) (h : r.reservation = none) : Releases s (s.setStrip p r) := by
  refine ⟨⟨rfl, ⟨[], (List.append_nil _).symm⟩, fun _ => id, fun q g hq => ?_, fun _ _ _ => id⟩, rfl, rfl, rfl, fun _ => id⟩
  rw [State.stripPocket_setStrip]
  split
  · rw [h]; exact nofun
  · exact hq

theorem FrameRecord.mark_set (l : List PocketMark) (i j : Nat) (m d : PocketMark) :
    (l.set i m).getD j d = if i = j ∧ i < l.length then m else l.getD j d := by
  by_cases h : i = j
  · subst h
    by_cases hl : i < l.length <;> simp [hl]
  · simp [h]

/-- A frame record whose marks are OPEN or as before. -/
theorem State.setFrame_releases (f : FrameId) (r : FrameRecord)
    (h : ∀ (i : Nat) (g : HeadId), r.mark i = .reserved g → (s.frame f).mark i = .reserved g) :
    Releases s (s.setFrame f r) := by
  refine ⟨⟨rfl, ⟨[], (List.append_nil _).symm⟩, fun _ => id, fun _ _ => id, fun e i g hn => ?_⟩, rfl, rfl, rfl,
    fun _ => id⟩
  rw [State.frame_setFrame]
  split
  · next he => exact fun hr => hn (he ▸ h i g hr)
  · exact hn

theorem State.setMark_open_releases (f : FrameId) (i : Nat) : Releases s (s.setMark f i .isOpen) := by
  refine State.setFrame_releases s f _ fun j g hg => ?_
  rw [FrameRecord.mark, FrameRecord.mark_set] at hg
  split at hg
  · cases hg
  · exact hg

theorem State.reportRoom_releases (st : Station) : Releases s (s.reportRoom st) := by
  unfold State.reportRoom
  split
  · split
    · exact State.push_releases s _
    · exact Releases.refl s
  · exact Releases.refl s

theorem State.leaveInputs_releases (f : FrameId) : Releases s (s.leaveInputs f) := by
  have h : Releases s { s with trays := { s.trays with inputs := s.trays.inputs.filter fun g => g != f } } :=
    Releases.of_same
  refine h.trans ?_
  unfold State.leaveInputs
  simp only
  split
  · split
    · exact State.push_releases _ _
    · exact Releases.refl _
  · exact Releases.refl _

theorem State.spend_releases (f : FrameId) (r : FrameReason) : Releases s (s.spend f r) := by
  have h : Releases s (((s.writeReason f r (s.frame f).done).writeFrameState f .spent).setFlag .tray) :=
    Releases.trans Releases.of_same (State.setFlag_releases _ .tray)
  exact h.trans ((State.leaveInputs_releases _ f).trans (State.setFrame_releases _ f _ fun i g hg => by
    simp [FrameRecord.mark] at hg))

theorem State.closedTest_releases (f : FrameId) : Releases s (s.closedTest f) := by
  unfold State.closedTest
  simp only
  split
  · exact State.spend_releases s f _
  · exact Releases.refl s

theorem State.releasePocket_releases (f : FrameId) (i : Nat) (h : HeadId) : Releases s (s.releasePocket f i h) := by
  unfold State.releasePocket
  split
  · refine (State.setMark_open_releases s f i).trans ?_
    simp only
    split
    · exact State.closedTest_releases _ f
    · exact State.reportRoom_releases _ _
    · exact Releases.refl _
  · exact Releases.refl s

/-- A pocket of which a head releases its mark is not RESERVED for it. -/
theorem State.releasePocket_mark (f : FrameId) (i : Nat) (h : HeadId) :
    ((s.releasePocket f i h).frame f).mark i ≠ .reserved h := by
  unfold State.releasePocket
  split
  · next hm =>
    have open_ : ((s.setMark f i .isOpen).frame f).mark i ≠ .reserved h := by
      have hl : i < (s.frame f).marks.length := by
        by_contra hn
        rw [FrameRecord.mark, List.getD_eq_default _ _ (by omega)] at hm
        cases hm
      rw [State.setMark, State.frame_setFrame, if_pos rfl, FrameRecord.mark, FrameRecord.mark_set, if_pos ⟨rfl, hl⟩]
      exact nofun
    simp only
    split
    · exact (State.closedTest_releases _ f).marks f i h open_
    · exact (State.reportRoom_releases _ _).marks f i h open_
    · exact open_
  · next hm => exact hm

/-- What the release of one leg leaves of it. -/
structure LegFreed (h : HeadId) (l : Leg) (t : State) : Prop where
  claim : l.kind = .pick → ∀ p : Fin 16, l.location = .strip p → ∀ e ∈ t.units.retest, e.pocket = p → e.claim = none
  strip : l.kind ≠ .pick → ∀ p : Fin 16, l.location = .strip p → (t.stripPocket p).reservation ≠ some h
  pocket : ∀ (f : FrameId) (i : Nat), l.frame = some f →
    (∃ n : Fin 2, l.location = .input n i) ∨ (∃ n : Fin 8, l.location = .output n i) → (t.frame f).mark i ≠ .reserved h

theorem LegFreed.mono {h : HeadId} {l : Leg} {s t : State} (k : LegFreed h l s) (f : Frees s t) : LegFreed h l t :=
  ⟨fun hk p hp => f.claims p (k.claim hk p hp), fun hk p hp => f.strips p h (k.strip hk p hp),
    fun g i hg hp => f.marks g i h (k.pocket g i hg hp)⟩

theorem State.releaseLeg_releases (h : HeadId) (l : Leg) : Releases s (s.releaseLeg h l) := by
  unfold State.releaseLeg
  split
  · exact State.setClaim_releases s _
  · split
    · exact State.setStrip_releases s _ _ rfl
    · exact Releases.refl s
  · split
    · exact State.releasePocket_releases s _ _ _
    · exact Releases.refl s
  · split
    · exact State.releasePocket_releases s _ _ _
    · exact Releases.refl s
  · exact Releases.refl s
  · exact Releases.refl s

theorem State.releaseLeg_pocket (h : HeadId) (l : Leg) (f : FrameId) (i : Nat) (hf : l.frame = some f)
    (hp : (∃ n : Fin 2, l.location = .input n i) ∨ (∃ n : Fin 8, l.location = .output n i)) :
    s.releaseLeg h l = s.releasePocket f i h := by
  unfold State.releaseLeg
  rcases hp with ⟨n, hn⟩ | ⟨n, hn⟩ <;> simp only [hn, hf]

theorem State.releaseLeg_strip (h : HeadId) (l : Leg) (p : Fin 16) (hk : l.kind ≠ .pick) (hp : l.location = .strip p) :
    s.releaseLeg h l =
      if (s.stripPocket p).reservation = some h then s.setStrip p { s.stripPocket p with reservation := none } else s := by
  unfold State.releaseLeg
  rw [hp]
  cases hl : l.kind with
  | pick => exact absurd hl hk
  | place => rfl
  | travel => rfl

theorem State.releaseLeg_freed (h : HeadId) (l : Leg) : LegFreed h l (s.releaseLeg h l) := by
  refine ⟨fun hk p hp => ?_, fun hk p hp => ?_, fun f i hf hp => ?_⟩
  · have e : s.releaseLeg h l = s.setClaim p none := by unfold State.releaseLeg; simp only [hp, hk]
    rw [e]
    exact s.setClaim_free p
  · rw [State.releaseLeg_strip s h l p hk hp]
    split
    · rw [State.stripPocket_setStrip, if_pos rfl]; exact nofun
    · assumption
  · rw [State.releaseLeg_pocket s h l f i hf hp]
    exact s.releasePocket_mark f i h

theorem State.releaseLegs_releases (h : HeadId) (d : List Leg) :
    Releases s (d.foldl (fun s l => s.releaseLeg h l) s) := by
  induction d generalizing s with
  | nil => exact Releases.refl s
  | cons l d ih => exact (State.releaseLeg_releases s h l).trans (ih _)

theorem State.releaseLegs_freed (h : HeadId) (d : List Leg) :
    ∀ l ∈ d, LegFreed h l (d.foldl (fun s l => s.releaseLeg h l) s) := by
  induction d generalizing s with
  | nil => exact nofun
  | cons x d ih =>
    intro l hl
    rcases List.mem_cons.1 hl with rfl | hl
    · exact (State.releaseLeg_freed s h l).mono (State.releaseLegs_releases _ h d).toFrees
    · exact ih _ l hl

/-! ### The rest of a dissolution -/

theorem State.unbindReturn_frees (i : Site) (r : Nat) : Frees s (s.unbindReturn i r) := by
  unfold State.unbindReturn
  simp only
  split
  · exact Frees.trans Frees.of_same (State.push_releases _ _).toFrees
  · exact Frees.of_same

theorem State.returnRequest_frees (h : HeadId) (j : Job) : Frees s (s.returnRequest h j) := by
  unfold State.returnRequest
  split
  · exact Frees.refl s
  · split
    · exact State.unbindReturn_frees s _ _
    · exact Frees.refl s

theorem State.rerouteNozzle_frees (h : HeadId) (k : Nozzle) : Frees s (s.rerouteNozzle h k) := by
  unfold State.rerouteNozzle
  split
  · exact Frees.refl s
  · split
    · exact Frees.refl s
    · split
      · exact Frees.refl s
      · exact Frees.trans Frees.of_same (State.push_releases _ _).toFrees

theorem State.reroute_frees : Frees s s.reroute := by
  unfold State.reroute
  split
  · exact Frees.refl s
  · exact (Frees.foldl _ (fun s k => State.rerouteNozzle_frees s .a k) _ s).trans
      (Frees.foldl _ (fun s k => State.rerouteNozzle_frees s .b k) _ _)

end

end Sys2Proof.Machine
end

section
set_option Elab.async false

namespace Sys2Proof.Machine

/-! ## A withdrawal, a dissolution and the request that goes back (R20, R72, R74) -/

variable (s : State)

theorem State.wanted_congr {s t : State} {i : Site} (hs : t.socket i = s.socket i) (hc : t.shadow = s.shadow) :
    t.wanted i = s.wanted i := by
  simp [State.wanted, State.siteCfg, State.cfg, hs, hc]

/-- The state after the legs' release, in which the bound request goes back. -/
def State.released (s : State) (h : HeadId) (d : List Leg) : State :=
  (d.foldl (fun s l => s.releaseLeg h l) s).setWaiting h none

theorem State.released_releases (h : HeadId) (d : List Leg) : Releases s (s.released h d) :=
  (State.releaseLegs_releases s h d).trans Releases.of_same

theorem Releases.socket {s t : State} (r : Releases s t) (i : Site) : t.socket i = s.socket i := by
  rw [State.socket, r.sites]; rfl

theorem Releases.head {s t : State} (r : Releases s t) (h : HeadId) : t.head h = s.head h := by
  rw [State.head, r.planner]; rfl

theorem Releases.request {s t : State} (r : Releases s t) (i : Site) : t.request i = s.request i := by
  rw [State.request, r.planner]; rfl

theorem Releases.wanted {s t : State} (r : Releases s t) (i : Site) : t.wanted i = s.wanted i :=
  State.wanted_congr (r.socket i) r.shadow

theorem State.withdraw_of_job {h : HeadId} (d : List Leg) {j : Job} (hj : (s.head h).job = some j) :
    s.withdraw h d = (s.released h d).returnRequest h j := by
  have hj' : ((s.released h d).head h).job = some j := by rw [(s.released_releases h d).head, hj]
  unfold State.withdraw
  rw [show ((List.foldl (fun s l => s.releaseLeg h l) s d).setWaiting h none) = s.released h d from rfl]
  simp only [hj']

theorem State.withdraw_of_no_job {h : HeadId} (d : List Leg) (hj : (s.head h).job = none) :
    s.withdraw h d = s.released h d := by
  have hj' : ((s.released h d).head h).job = none := by rw [(s.released_releases h d).head, hj]
  unfold State.withdraw
  rw [show ((List.foldl (fun s l => s.releaseLeg h l) s d).setWaiting h none) = s.released h d from rfl]
  simp only [hj']

theorem State.withdraw_of_bound {h : HeadId} (d : List Leg) {j : Job} {i : Site} (hj : (s.head h).job = some j)
    (hi : j.site = some i) (hb : (s.socket i).bound = some h) :
    s.withdraw h d = (s.released h d).unbindReturn i j.raised := by
  rw [State.withdraw_of_job s d hj]
  unfold State.returnRequest
  simp only [hi, (s.released_releases h d).socket i]
  rw [if_pos hb]

theorem State.withdraw_frees (h : HeadId) (d : List Leg) : Frees s (s.withdraw h d) := by
  cases hj : (s.head h).job with
  | none => rw [State.withdraw_of_no_job s d hj]; exact (s.released_releases h d).toFrees
  | some j =>
    rw [State.withdraw_of_job s d hj]
    exact (s.released_releases h d).toFrees.trans (State.returnRequest_frees _ h j)

theorem State.entered_mem_dissolve {h : HeadId} {j : Job} {i : Site} (d kept : List Leg) (hj : (s.head h).job = some j)
    (hi : j.site = some i) (hb : (s.socket i).bound = some h) (hw : s.wanted i ≠ none) :
    Task.entered i ∈ (s.dissolve h d kept).agenda := by
  rw [State.dissolve_eq, State.withdraw_of_bound s d hj hi hb]
  refine Frees.mem_agenda (Frees.trans Frees.of_same (State.reroute_frees _)) ?_
  exact State.entered_mem_unbindReturn (s := s.released h d) j.raised (by rw [(s.released_releases h d).wanted]; exact hw)

/-! ## The follow-up work of an event, first in first out (log entry 7) -/

theorem cascade_agenda (n : Nat) {x : Task} {rest : List Task} (h : s.agenda = x :: rest) :
    cascade (n + 1) s = cascade n ({ s with agenda := rest }.runTask x) := by
  rw [cascade]
  simp only [h]

theorem cascade_trailing (n : Nat) {x : Task} {rest : List Task} (ha : s.agenda = []) (h : s.trailing = x :: rest) :
    cascade (n + 1) s = cascade n ({ s with trailing := rest }.runTask x) := by
  rw [cascade]
  simp only [ha, h]

theorem cascade_rest (n : Nat) (h : s.atRest) : cascade n s = s := by
  cases n with
  | zero => rfl
  | succ n => rw [cascade]; simp only [h.1, h.2]

/-! ## READY (R7), END out of a test (R11), and the expiries that end a cycle (R14, R16) -/

theorem State.takeReady_of_empty {i : Site} (up : Bool) (h : (s.socket i).state = .empty) :
    s.takeReady i up = (s.setSocket i { s.socket i with ready := up }).updateRequests i := by
  unfold State.takeReady
  simp only [State.socket_setSocket_self, h]

theorem State.takeReady_of_other {i : Site} (up : Bool) (hs : (s.socket i).state ≠ .seated) (he : (s.socket i).state ≠ .empty)
    (ht : (s.socket i).state = .testing → up = true) :
    s.takeReady i up = s.setSocket i { s.socket i with ready := up } := by
  unfold State.takeReady
  simp only [State.socket_setSocket_self]
  split
  · next h => exact absurd h hs
  · next h => cases ht h
  · next h => exact absurd h he
  · rfl

theorem State.timerExpired_release {s : State} {i : Site} {e d : Nat} (h : (s.socket i).state = .releasing)
    (ht : (s.socket i).timer = .running .release e d) :
    s.timerExpired i =
      ((s.reach e).setSocket i { s.socket i with state := .unloadReady, timer := .stopped }).updateRequests i := by
  simp only [State.timerExpired, h, ht]
  rfl

theorem State.timerExpired_recovery {s : State} {i : Site} {e d : Nat} (h : (s.socket i).state = .recovering)
    (ht : (s.socket i).timer = .running .recovery e d) : s.timerExpired i = (s.reach e).recoveryExpired i := by
  simp only [State.timerExpired, h, ht]

/-- The state that a recovery leads to (R16). -/
def StopPending.after : StopPending → SocketState
  | .none => .empty
  | .disable => .disabled
  | .lock => .locked
  | .retire => .retired

/-- A recovery's end, for the socket's record with its timer stopped: the stop-pending is used up (R16). -/
theorem State.recoveryExpired_eq (i : Site) (h : (s.socket i).stop ≠ .none ∨ (s.socket i).bound = none) :
    s.recoveryExpired i =
      (s.setSocket i { s.socket i with state := (s.socket i).stop.after, stop := .none, timer := .stopped }).updateRequests i := by
  unfold State.recoveryExpired
  cases hs : (s.socket i).stop with
  | none =>
    have hb := h.resolve_left fun c => c hs
    simp only [StopPending.target, State.enterStopped, State.socket_setSocket_self, hb, hs, StopPending.after]
  | _ =>
    simp only [StopPending.target, State.enterStopped, State.socket_setSocket_self, State.setSocket_setSocket, StopPending.after]

end Sys2Proof.Machine

open Sys2Proof Sys2Proof.Machine in
/-- Settles O6: the rows of READY, the table of R19, and the follow-up work that a request entering the pending set leaves. -/
theorem readyAndRequests : Obligations.ReadyAndRequests := by
  refine ⟨fun s i up hr hu => ⟨fun ⟨hs, he, ht⟩ => ?_, fun he hb hn => ?_⟩, ?_⟩
  · rw [exec_ready s i up hu, s.takeReady_of_other up hs he ht]
    exact State.finish_rest _ hr
  · rw [exec_ready s i up hu, s.takeReady_of_empty up he, State.updateRequests_finish (hr.setSocket i _) hn (by simpa using hb)]
    congr 2
    unfold State.requestLeft
    rw [State.wanted_of_empty (by simpa using he), State.socket_setSocket_self, apply_ite (Option.map _)]
    rfl
  · intro s i k level wanted
    have hw : s.wanted i = wanted := s.wanted_eq i
    refine ⟨hw, State.updateRequests_of_bound, fun hb => ⟨?_, fun j hj => ?_, ?_⟩, fun q hb hq he => ?_, fun h => ?_,
      fun h j legs kept hj hi hb hn => s.entered_mem_dissolve legs kept hj hi hb (by rwa [hw]), rfl,
      ⟨rfl, fun n x rest => ⟨cascade_agenda s n, cascade_trailing s n, cascade_rest s n⟩⟩, fun up hu he => ?_, fun e d =>
      ⟨fun hs ht => ?_, fun hs ht hb => ?_⟩⟩
    · rw [State.updateRequests_eq hb, ← hw]
      exact State.request_setRequest_self s i _
    · rw [State.updateRequests_eq hb]
      exact (State.request_setRequest s i j _).trans (if_neg (Ne.symm hj))
    · rw [State.updateRequests_eq hb]; rfl
    · exact State.updateRequests_of_raised hb hq (by rw [hw, he])
    · exact State.updateRequests_agenda_of_kept (by rwa [hw])
    · rw [exec_ready s i up hu, s.takeReady_of_empty up he]
    · refine (exec_of_running ht).trans ?_
      rw [State.timerExpired_release hs ht]
      rfl
    · refine (exec_of_running ht).trans ?_
      rw [State.timerExpired_recovery hs ht, State.recoveryExpired_eq (s.reach e) i (.inr hb)]
      rfl

end

section
set_option Elab.async false

namespace Sys2Proof.Machine

/-! ## A notice raised (R155): what it leaves alone -/

section
variable (s : State)

/-- A notice changes the registers, memory, the board and the messages sent. -/
theorem State.raise_eq (n : Notice) :
    s.raise n = { s with
      regs := (s.raise n).regs, mem := (s.raise n).mem, board := (s.raise n).board, outbox := (s.raise n).outbox } := by
  have hf : s.setFlag .notice = { s with regs := (s.setFlag .notice).regs, outbox := (s.setFlag .notice).outbox } := by
    unfold State.setFlag State.setRegisters State.send
    simp only
    split <;> rfl
  have hw (t : State) (k : SlotId) (n : Notice) : t.writeNotice k n = { t with
      regs := (t.writeNotice k n).regs, mem := (t.writeNotice k n).mem, board := (t.writeNotice k n).board,
      outbox := (t.writeNotice k n).outbox } := by
    unfold State.writeNotice State.setFlag State.setRegisters State.send
    simp only
    split <;> rfl
  unfold State.raise
  simp only
  split
  · rw [hw, hf]
  · rw [hf]

@[simp] theorem State.raise_pending (n : Notice) : (s.raise n).pending = s.pending := by rw [State.raise_eq]
@[simp] theorem State.raise_shadow (n : Notice) : (s.raise n).shadow = s.shadow := by rw [State.raise_eq]
@[simp] theorem State.raise_sites (n : Notice) : (s.raise n).sites = s.sites := by rw [State.raise_eq]
@[simp] theorem State.raise_units (n : Notice) : (s.raise n).units = s.units := by rw [State.raise_eq]
@[simp] theorem State.raise_planner (n : Notice) : (s.raise n).planner = s.planner := by rw [State.raise_eq]
@[simp] theorem State.raise_rail (n : Notice) : (s.raise n).rail = s.rail := by rw [State.raise_eq]
@[simp] theorem State.raise_link (n : Notice) : (s.raise n).link = s.link := by rw [State.raise_eq]
@[simp] theorem State.raise_trays (n : Notice) : (s.raise n).trays = s.trays := by rw [State.raise_eq]
@[simp] theorem State.raise_time (n : Notice) : (s.raise n).time = s.time := by rw [State.raise_eq]
@[simp] theorem State.raise_agenda (n : Notice) : (s.raise n).agenda = s.agenda := by rw [State.raise_eq]
@[simp] theorem State.raise_trailing (n : Notice) : (s.raise n).trailing = s.trailing := by rw [State.raise_eq]
@[simp] theorem State.raise_choices (n : Notice) : (s.raise n).choices = s.choices := by rw [State.raise_eq]

@[simp] theorem State.raise_socket (n : Notice) (i : Site) : (s.raise n).socket i = s.socket i := by
  simp [State.socket]
@[simp] theorem State.raise_head (n : Notice) (h : HeadId) : (s.raise n).head h = s.head h := by
  simp [State.head]
@[simp] theorem State.raise_unit (n : Notice) (u : Handle) : (s.raise n).unit u = s.unit u := by
  simp [State.unit]
@[simp] theorem State.setFlag_socket (c : AttentionClass) (i : Site) : (s.setFlag c).socket i = s.socket i := by
  simp [State.socket]
@[simp] theorem State.setFlag_head (c : AttentionClass) (h : HeadId) : (s.setFlag c).head h = s.head h := by
  simp [State.head]

/-! ### The flags -/

theorem State.setFlag_bit (c : AttentionClass) : (s.setFlag c).regs.attention.getLsbD c.bit = true := by
  rw [State.setFlag_attention]; cases c <;> simp [AttentionClass.bit]

theorem State.setFlag_other (c d : AttentionClass) (h : c ≠ d) :
    (s.setFlag c).regs.attention.getLsbD d.bit = s.regs.attention.getLsbD d.bit := by
  rw [State.setFlag_attention, BitVec.getLsbD_or]
  have : (1#6 <<< c.bit).getLsbD d.bit = false := by revert h; cases c <;> cases d <;> decide
  rw [this, Bool.or_false]

theorem State.raise_attention (n : Notice) : (s.raise n).regs.attention = s.regs.attention ||| (1#6 <<< AttentionClass.notice.bit) := by
  unfold State.raise
  simp only
  split
  · simp [State.writeNotice, State.setFlag, BitVec.or_assoc]
  · simp [State.setFlag]

theorem State.raise_bit (n : Notice) : (s.raise n).regs.attention.getLsbD AttentionClass.notice.bit = true := by
  rw [State.raise_attention]; simp [AttentionClass.bit]

theorem State.raise_other (n : Notice) (d : AttentionClass) (h : .notice ≠ d) :
    (s.raise n).regs.attention.getLsbD d.bit = s.regs.attention.getLsbD d.bit := by
  rw [State.raise_attention, ← State.setFlag_attention, State.setFlag_other s _ _ h]

/-! ### The messages -/

theorem State.setFlag_outbox (c : AttentionClass) :
    ∃ l : List Message, (s.setFlag c).outbox = s.outbox ++ l ∧ ∀ m ∈ l, m = .interrupt := (State.setFlag_aside s c).outbox

theorem State.raise_outbox (n : Notice) :
    ∃ l : List Message, (s.raise n).outbox = s.outbox ++ l ∧ ∀ m ∈ l, m = .interrupt := by
  obtain ⟨l, hl, hi⟩ := State.setFlag_outbox s .notice
  unfold State.raise
  simp only
  split
  · next k _ _ =>
    obtain ⟨m, hm, hj⟩ := State.setFlag_outbox ({ (s.setFlag .notice).setMem (writeWord
      (writeWords (s.setFlag .notice).mem (Config.slotBase k + 4)
        (noticeWords { n with time := s.stamp, suppressed := 0 } (s.setFlag .notice).board.sequence))
      (Config.slotBase k) 1#32) with
      board := { (s.setFlag .notice).board with sequence := (s.setFlag .notice).board.sequence + 1#16 } }) .notice
    refine ⟨l ++ m, ?_, fun x hx => (List.mem_append.1 hx).elim (hi x) (hj x)⟩
    unfold State.writeNotice
    rw [hm, ← List.append_assoc, ← hl]
    rfl
  · exact ⟨l, hl, hi⟩

end

/-! ### It reads the time, the registers, memory, the board and the messages alone -/

theorem State.setFlag_congr {s t : State} (c : AttentionClass) (hr : t.regs = s.regs) (ho : t.outbox = s.outbox) :
    t.setFlag c = { t with regs := (s.setFlag c).regs, outbox := (s.setFlag c).outbox } := by
  unfold State.setFlag State.setRegisters State.send
  simp only [hr, ho]
  split <;> rfl

theorem State.writeNotice_congr {s t : State} (k : SlotId) (n : Notice) (hr : t.regs = s.regs) (hm : t.mem = s.mem)
    (hb : t.board = s.board) (ho : t.outbox = s.outbox) :
    t.writeNotice k n = { t with
      regs := (s.writeNotice k n).regs, mem := (s.writeNotice k n).mem, board := (s.writeNotice k n).board,
      outbox := (s.writeNotice k n).outbox } := by
  unfold State.writeNotice
  simp only [hm, hb]
  generalize writeWord _ _ 1#32 = m
  refine (State.setFlag_congr (s := { s.setMem m with board := { s.board with sequence := s.board.sequence + 1#16 } })
    (t := { t.setMem m with board := { s.board with sequence := s.board.sequence + 1#16 } }) .notice hr ho).trans ?_
  simp [State.setMem]

theorem State.raise_congr {s t : State} (n : Notice) (hr : t.regs = s.regs) (hm : t.mem = s.mem) (hb : t.board = s.board)
    (hk : t.time = s.time) (ho : t.outbox = s.outbox) :
    t.raise n = { t with
      regs := (s.raise n).regs, mem := (s.raise n).mem, board := (s.raise n).board, outbox := (s.raise n).outbox } := by
  have hf := State.setFlag_congr .notice hr ho
  unfold State.raise State.stamp
  simp only [State.setFlag_board, State.setFlag_mem, hb, hm, hk]
  split
  · rw [State.writeNotice_congr (s := s.setFlag .notice) (t := t.setFlag .notice) _ _ (by rw [hf]) (by simp [hm]) (by simp [hb])
      (by rw [hf]), hf, ← hk]
  · rw [hf, ← hk]

end Sys2Proof.Machine

open Sys2Proof Sys2Proof.Machine in
/-- Settles O9: a notice of either kind changes neither socket nor unit, no flag but NOTICE, and sends the interrupt alone. -/
theorem lateAndStrayEnds : Obligations.LateAndStrayEnds := by
  intro s i bin hr hu hs _
  have raised (n : Notice) : (s.raise n).sites.sockets = s.sites.sockets ∧ (s.raise n).units = s.units ∧
      (s.raise n).regs.attention.getLsbD AttentionClass.site.bit = s.regs.attention.getLsbD AttentionClass.site.bit ∧
      ∀ m ∈ (s.raise n).outbox, m ∈ s.outbox ∨ m = .interrupt := by
    obtain ⟨l, hl, hi⟩ := s.raise_outbox n
    exact ⟨by simp, by simp, s.raise_other n .site (by decide), fun m hm => (List.mem_append.1 (hl ▸ hm)).imp id (hi m)⟩
  have he : exec (.endOfTest i.val bin) s = (s.lateEnd i bin).finish := by
    rw [exec_endOfTest s i bin hu, State.takeEnd, if_neg hs]
  have rest (n : Notice) : (s.raise n).atRest := ⟨(s.raise_agenda n).trans hr.1, (s.raise_trailing n).trans hr.2⟩
  rw [he]
  by_cases hl : (s.test i).late = .none
  · have hlate : s.lateEnd i bin = s.raise { kind := .strayEnd, site := some i, bin := some bin } := by
      simp only [State.lateEnd, hl]
    rw [hlate]
    exact ⟨_, State.finish_rest _ (rest _), fun h => absurd hl h, fun _ => rfl, raised _⟩
  · have hlate : s.lateEnd i bin =
        (s.raise { kind := .lateEnd, site := some i, serial := some (s.test i).serial, bin := some bin }).setTest i
          { s.test i with late := .none } := by
      unfold State.lateEnd
      simp only
      split
      · next h => exact absurd h hl
      · rfl
      · rfl
    rw [hlate]
    exact ⟨_, State.finish_rest _ (rest _), fun _ => rfl, fun h => absurd h hl, raised _⟩
end

section
set_option Elab.async false

namespace Sys2Proof.Machine

/-! ## The ends of the release and recovery timers (R14, R16) -/

variable (s : State)

theorem StopPending.after_ne {p : StopPending} (h : p ≠ .none) : p.after ≠ .unloadReady ∧ p.after ≠ .empty := by
  cases p with
  | none => exact absurd rfl h
  | disable => exact ⟨nofun, nofun⟩
  | lock => exact ⟨nofun, nofun⟩
  | retire => exact ⟨nofun, nofun⟩

/-- A site that wants no request has none left pending, unless it is bound. -/
theorem State.updateRequests_of_unwanted {s : State} {i : Site} (h : s.wanted i = none) :
    s.updateRequests i = if (s.socket i).bound = none then s.setRequest i none else s := by
  split
  · next hb => rw [State.updateRequests_of_kept hb (.inr h), State.requestLeft, h]; rfl
  · next hb => exact State.updateRequests_of_bound hb

theorem State.recoveryExpired_of_bound {s : State} {i : Site} {h : HeadId} (hs : (s.socket i).stop = .none)
    (hb : (s.socket i).bound = some h) :
    s.recoveryExpired i = (s.setSocket i { s.socket i with state := .empty, timer := .stopped }).socketClear i h := by
  unfold State.recoveryExpired
  simp only [hs, hb, StopPending.target, State.enterStopped, State.socket_setSocket_self]

theorem State.recoveryExpired_of_clear {s : State} {i : Site} (hs : (s.socket i).stop = .none)
    (hb : (s.socket i).bound = none) :
    s.recoveryExpired i = (s.setSocket i { s.socket i with state := .empty, timer := .stopped }).updateRequests i := by
  unfold State.recoveryExpired
  simp only [hs, hb, StopPending.target, State.enterStopped, State.socket_setSocket_self]

theorem State.socketClear_of_other {s : State} (i : Site) {h : HeadId} (hh : (s.head h).state ≠ .socketWait) :
    s.socketClear i h = s := by
  unfold State.socketClear
  split
  · next e _ => exact absurd e hh
  · rfl

theorem State.socketClear_of_waiting {s : State} {i : Site} {h : HeadId} {k : Nozzle} {l : Leg} {rest : List Leg}
    (hh : (s.head h).state = .socketWait) (hl : (s.head h).legs = l :: rest) (hp : l.location = .socket i)
    (hn : l.nozzle = some k) (hc : s.control.state ≠ .halted) : s.socketClear i h = s.startAct h k .place := by
  unfold State.socketClear
  simp only [hh, hl, hp, hn, State.isIn_eq_false hc, and_self, if_true]

/-- The site's release has ended: UNLOAD_READY and its request (R14, R19). -/
def State.unloadReady (s : State) (i : Site) (k : Socket) : State :=
  (s.setSocket i { k with state := .unloadReady, timer := .stopped }).setRequest i
    (some { kind := if k.stop = StopPending.none ∧ (s.siteCfg i).level ≠ 0 then .swap else .unload, raised := s.time })

/-- A release's end with no head taking work (R14, R19). -/
theorem State.release_cascade {s : State} {i : Site} (n : Nat) (k : Socket) (hr : s.atRest) (hn : s.noTakers)
    (hb : k.bound = none) (hq : s.request i = none) :
    cascade (n + 1) ((s.setSocket i { k with state := .unloadReady, timer := .stopped }).updateRequests i) =
      s.unloadReady i k := by
  rw [State.updateRequests_cascade n (hr.setSocket i _) hn (by simpa using hb)]
  unfold State.requestLeft
  rw [State.wanted_of_unloadReady (by simp), show (s.setSocket i _).request i = none from hq,
    State.socket_setSocket_self]
  rfl

/-- A release delay of 0 ends directly after the event that started it (R3). -/
theorem State.release_direct {s : State} {i : Site} (hr : s.atRest) (hn : s.noTakers)
    (hs : (s.socket i).state = .releasing) (ht : (s.socket i).timer = .running .release s.time 0)
    (hb : (s.socket i).bound = none) (hq : s.request i = none) :
    (s.direct i 0).finish = .next (s.unloadReady i (s.socket i)) := by
  have he : s.reach s.time = s := by simp [State.reach]
  rw [State.finish_eq_cascade, State.direct_zero, cascade_trailing _ _ (show (s.pushTrailing _).agenda = [] from hr.1) rfl]
  rw [show ({ s.pushTrailing (.expiry i) with trailing := s.trailing } : State).runTask (.expiry i) = s.timerExpired i from rfl,
    State.timerExpired_release hs ht, he, State.release_cascade _ _ hr hn hb hq]

end Sys2Proof.Machine

open Sys2Proof Sys2Proof.Machine in
/-- Settles O10: the release ends in UNLOAD_READY with its request; the recovery ends by the stop-pending, by the bound head,
or by the request of the EMPTY socket. -/
theorem releaseAndRecovery : Obligations.ReleaseAndRecovery := by
  intro s i e d hr now
  refine ⟨fun hs ht hn hb hq => ?_, fun hs ht => ?_⟩
  · refine (exec_of_running ht).trans ?_
    rw [State.timerExpired_release hs ht]
    rw [State.finish_eq_cascade]
    exact congrArg _ (State.release_cascade (s := s.reach e) _ (s.socket i) (hr.reach e) hn hb hq)
  · intro k target out
    have hx : exec (.recoveryExpiry i) s = ((s.reach e).recoveryExpired i).finish :=
      (exec_of_running ht).trans (by rw [State.timerExpired_recovery hs ht])
    refine ⟨fun hstop => ?_, fun hstop hb hn => ?_, fun h hstop hb => ⟨fun hh => ?_, fun n l rest hh hl hp hn hc => ?_⟩⟩
    · have ho : exec (.recoveryExpiry i) s = (out.updateRequests i).finish :=
        hx.trans (by rw [State.recoveryExpired_eq (s.reach e) i (.inl hstop)]; rfl)
      have hw : out.wanted i = none := by
        obtain ⟨ha, he⟩ := StopPending.after_ne hstop
        exact State.wanted_of_other (by rw [State.socket_setSocket_self]; exact ha) (by rw [State.socket_setSocket_self]; exact he)
      have hb : (out.socket i).bound = (s.socket i).bound := by rw [State.socket_setSocket_self]
      rw [ho, State.updateRequests_of_unwanted hw, hb]
      refine State.finish_rest _ ?_
      split <;> exact hr
    · have ho : exec (.recoveryExpiry i) s = ((now.setSocket i { k with state := .empty }).updateRequests i).finish :=
        hx.trans (by rw [State.recoveryExpired_of_clear (s := s.reach e) hstop hb]; rfl)
      rw [ho, State.updateRequests_finish (State.atRest.setSocket (s := now) hr i _) hn (by simpa using hb)]
      congr 2
      unfold State.requestLeft
      rw [State.wanted_of_empty (by simp), State.socket_setSocket_self, apply_ite (Option.map _)]
      simp only [show k.stop = .none from hstop, true_and]
      rfl
    · rw [hx, State.recoveryExpired_of_bound (s := s.reach e) hstop hb,
        State.socketClear_of_other (s := (s.reach e).setSocket i _) i hh]
      exact State.finish_rest _ hr
    · rw [hx, State.recoveryExpired_of_bound (s := s.reach e) hstop hb,
        State.socketClear_of_waiting (s := (s.reach e).setSocket i _) hh hl hp hn hc]
      exact State.finish_rest _ hr
end

section
set_option Elab.async false

namespace Sys2Proof.Machine

/-! ## A test closed (R8 to R10, R12, R33) -/

variable (s : State)

@[simp] theorem State.setSocket_request (i j : Site) (k : Socket) : (s.setSocket i k).request j = s.request j := rfl

/-- A closed test before the retirement check: the unit's record, the test record, RELEASE and the release timer, for the
socket's record with its flag and its count. -/
def State.testClosed (s : State) (i : Site) (u : Handle) (r : UnitRecord) (late : LateMarker) (k : Socket) : State :=
  (((s.setUnit u (some r)).setTest i { s.test i with isOpen := false, late := late }).send (.release i)).setSocket i
    { k with
      state := .releasing
      timer := .running .release (s.time + (s.profile i).release * 1000) ((s.profile i).release * 1000) }

/-- The marks of a retirement do not apply (R12). -/
theorem State.retireCheck_of_staying {s : State} {i : Site}
    (h : ¬((s.siteCfg i).threshold ≠ 0 ∧ (s.siteCfg i).threshold ≤ (s.socket i).bad ∧
      ((s.socket i).stop = .none ∨ (s.socket i).stop = .disable))) : s.retireCheck i = s := by
  unfold State.retireCheck
  exact if_neg h

@[simp] theorem State.direct_request (i j : Site) (d : Nat) : (s.direct i d).request j = s.request j := by
  unfold State.direct; split <;> rfl

@[simp] theorem State.direct_siteCfg (i j : Site) (d : Nat) : (s.direct i d).siteCfg j = s.siteCfg j := by
  unfold State.direct; split <;> rfl

theorem State.updateRequests_of_idle {s : State} {i : Site} (h : s.wanted i = none) (hq : s.request i = none) :
    s.updateRequests i = s := by
  rw [State.updateRequests_of_unwanted h, State.setRequest_of_eq hq, ite_self]

/-- Everything of a closure but what follows the count (R33). -/
theorem State.closeTest_eq {s : State} {i : Site} {u : Handle} {r : UnitRecord} (hu : (s.socket i).unit = some u)
    (hr : s.unit u = some r) (b : Fin 64) (ms : Nat) (late : LateMarker) (bad : Nat) :
    s.closeTest i b ms late bad =
      (((s.testClosed i u (r.closed s.cfg.bins[b] { site := i, bin := b, duration := ms } late) late
        { s.socket i with bad := bad }).direct i ((s.profile i).release * 1000)).updateRequests i).retireCheck i := by
  have hc : s.closeUnit i b ms late =
      s.setUnit u (some (r.closed s.cfg.bins[b] { site := i, bin := b, duration := ms } late)) := by
    unfold State.closeUnit State.modUnit
    simp only [hu, hr, Option.map_some]
  unfold State.closeTest
  rw [hc]
  simp only
  rw [State.enterTimed_cycle _ i .releasing (k := .release) nofun, State.setSocket_direct, State.socket_direct, State.socket_setSocket_self,
    State.setSocket_setSocket]
  rfl

theorem State.closeTest_of_staying {s : State} {i : Site} {u : Handle} {r : UnitRecord} (hu : (s.socket i).unit = some u)
    (hr : s.unit u = some r) (hq : s.request i = none) (b : Fin 64) (ms : Nat) (late : LateMarker) (bad : Nat)
    (h : ¬((s.siteCfg i).threshold ≠ 0 ∧ (s.siteCfg i).threshold ≤ bad ∧
      ((s.socket i).stop = .none ∨ (s.socket i).stop = .disable))) :
    s.closeTest i b ms late bad =
      (s.testClosed i u (r.closed s.cfg.bins[b] { site := i, bin := b, duration := ms } late) late
        { s.socket i with bad := bad }).direct i ((s.profile i).release * 1000) := by
  rw [State.closeTest_eq hu hr]
  unfold State.testClosed
  rw [State.updateRequests_of_idle (State.wanted_of_other (by simp) (by simp)) (by rw [State.direct_request]; exact hq),
    State.retireCheck_of_staying (by rw [State.direct_siteCfg, State.socket_direct, State.socket_setSocket_self]; exact h)]

theorem State.raise_direct (i : Site) (d : Nat) (n : Notice) : (s.direct i d).raise n = (s.raise n).direct i d :=
  s.apply_direct (fun s => s.raise n) i d (by
    rw [State.raise_congr (s := s) (t := s.pushTrailing (.expiry i)) n rfl rfl rfl rfl rfl, State.raise_eq]; rfl)

theorem State.setFlag_direct (i : Site) (d : Nat) (c : AttentionClass) : (s.direct i d).setFlag c = (s.setFlag c).direct i d :=
  s.apply_direct (fun s => s.setFlag c) i d (by
    rw [State.setFlag_congr (s := s) (t := s.pushTrailing (.expiry i)) c rfl rfl]
    simp [State.pushTrailing])

/-- The bin map entry of a bin code (R9). -/
theorem binEntry_eq {bin : Byte} {b : Fin 64} (h : b.val = if bin.toNat ≤ 60 then bin.toNat else 63) : binEntry bin = b := by
  unfold binEntry
  split
  · next hle => rw [if_pos hle] at h; exact Fin.ext h.symm
  · next hle => rw [if_neg hle] at h; exact Fin.ext h.symm

/-- Every closure ends with its timer running, so that a delay of 0 leads on to UNLOAD_READY (R3, R14). -/
theorem State.closed_finish {s : State} {i : Site} (hr : s.atRest) (hs : (s.socket i).state = .releasing)
    (ht : (s.socket i).timer =
      .running .release (s.time + (s.profile i).release * 1000) ((s.profile i).release * 1000)) (hq : s.request i = none)
    (alone : (s.profile i).release ≠ 0 ∨ (s.noTakers ∧ (s.socket i).bound = none)) :
    (s.direct i ((s.profile i).release * 1000)).finish =
      .next (if (s.profile i).release ≠ 0 then s else s.unloadReady i (s.socket i)) := by
  by_cases hd : (s.profile i).release = 0
  · obtain ⟨hn, hb⟩ := alone.resolve_left (not_not_intro hd)
    rw [hd, Nat.zero_mul] at ht ⊢
    rw [State.release_direct hr hn hs ht hb hq, if_neg (not_not_intro rfl)]
  · rw [State.direct_of_ne _ _ (by omega), State.finish_rest _ hr, if_pos hd]

theorem UnitRecord.closed_eq (r : UnitRecord) (e : BinEntry) (i : Site) (b : Fin 64) (ms : Nat) (late : LateMarker) :
    r.closed e { site := i, bin := b, duration := ms } late =
      { r with
        attempts := r.attempts ++ [{ site := i, bin := b, duration := ms }]
        disposition := if e.retest = true ∧ r.attempts.length + 1 < e.limit then .retestWanted e.cls else .cls e.cls
        reasons := { r.reasons with
          timeoutSeen := r.reasons.timeoutSeen || late == .timeout
          dropSeen := r.reasons.dropSeen || late == .drop } } := by
  simp [UnitRecord.closed, closingDisposition]

/-- READY down in TESTING (R7, R8). -/
theorem State.takeReady_drop {i : Site} (h : (s.socket i).state = .testing) :
    s.takeReady i false = (s.setSocket i { s.socket i with ready := false }).siteDrop i := by
  unfold State.takeReady
  simp only [State.socket_setSocket_self, h]

theorem State.timerExpired_endOfTest {s : State} {i : Site} {e d : Nat} (h : (s.socket i).state = .testing)
    (ht : (s.socket i).timer = .running .endOfTest e d) : s.timerExpired i = (s.reach e).eotExpired i := by
  simp only [State.timerExpired, h, ht]

theorem State.testClosed_setSocket (i : Site) (u : Handle) (r : UnitRecord) (late : LateMarker) (a k : Socket) :
    (s.setSocket i a).testClosed i u r late k = s.testClosed i u r late k :=
  State.setSocket_setSocket (((s.setUnit u (some r)).setTest i { s.test i with isOpen := false, late := late }).send (.release i))
    i a _

theorem State.siteDrop_of_staying {s : State} {i : Site} {u : Handle} {r : UnitRecord} (hu : (s.socket i).unit = some u)
    (hr : s.unit u = some r) (hq : s.request i = none)
    (h : ¬((s.siteCfg i).threshold ≠ 0 ∧ (s.siteCfg i).threshold ≤ countedBad (s.socket i).bad ∧
      ((s.socket i).stop = .none ∨ (s.socket i).stop = .disable))) :
    s.siteDrop i =
      (((s.testClosed i u (r.closed s.cfg.bins[(62 : Fin 64)] { site := i, bin := 62, duration := s.elapsed i } .drop) .drop
          { s.socket i with bad := countedBad (s.socket i).bad }).raise
        { kind := .siteDropped, site := some i, serial := some r.serial, bin := some 62#8 }).setFlag .site).direct i
          ((s.profile i).release * 1000) := by
  have hser : s.socketSerial i = some r.serial := State.serialOf_eq hu hr
  unfold State.siteDrop
  simp only
  rw [State.closeTest_of_staying hu hr hq 62 _ .drop _ h, hser, State.raise_direct, State.setFlag_direct]

theorem State.eotExpired_of_staying {s : State} {i : Site} {u : Handle} {r : UnitRecord} {e limit : Nat}
    (hu : (s.socket i).unit = some u) (hr : s.unit u = some r) (hq : s.request i = none)
    (ht : (s.socket i).timer = .running .endOfTest e limit)
    (h : ¬((s.siteCfg i).threshold ≠ 0 ∧ (s.siteCfg i).threshold ≤ countedBad (s.socket i).bad ∧
      ((s.socket i).stop = .none ∨ (s.socket i).stop = .disable))) :
    s.eotExpired i =
      (((s.testClosed i u (r.closed s.cfg.bins[(61 : Fin 64)] { site := i, bin := 61, duration := limit / 1000 } .timeout)
          .timeout { s.socket i with bad := countedBad (s.socket i).bad }).raise
        { kind := .eotTimeout, site := some i, serial := some r.serial, bin := some 61#8 }).setFlag .site).direct i
          ((s.profile i).release * 1000) := by
  have hser : s.socketSerial i = some r.serial := State.serialOf_eq hu hr
  unfold State.eotExpired
  simp only
  rw [State.closeTest_of_staying hu hr hq 61 _ .timeout _ h, hser, State.raise_direct, State.setFlag_direct, ht]
  rfl

/-- A state that a closure of the test at a site leaves, apart from the expiry to come: its release timer runs. -/
structure Closing (s : State) (i : Site) (t : State) : Prop where
  rest : t.atRest
  state : (t.socket i).state = .releasing
  timer : (t.socket i).timer = .running .release (t.time + (t.profile i).release * 1000) ((t.profile i).release * 1000)
  stop : (t.socket i).stop = (s.socket i).stop
  bound : (t.socket i).bound = (s.socket i).bound
  request : t.request i = s.request i
  shadow : t.shadow = s.shadow
  heads : t.planner.heads = s.planner.heads

theorem Closing.raise {s : State} {i : Site} {t : State} (h : Closing s i t) (n : Notice) (c : AttentionClass) :
    Closing s i ((t.raise n).setFlag c) := by
  have hp : ((t.raise n).setFlag c).profile i = t.profile i := State.profile_congr (by simp) i
  exact ⟨⟨by simpa using h.rest.1, by simpa using h.rest.2⟩, by simpa using h.state, by simpa [hp] using h.timer,
    by simpa using h.stop, by simpa using h.bound, by simpa [State.request] using h.request, by simpa using h.shadow,
    by simpa using h.heads⟩

theorem State.testClosed_closing {s : State} (hr : s.atRest) (i : Site) (u : Handle) (r : UnitRecord) (late : LateMarker)
    (k : Socket) (hs : k.stop = (s.socket i).stop) (hb : k.bound = (s.socket i).bound) :
    Closing s i (s.testClosed i u r late k) := by
  refine ⟨hr, ?_, ?_, ?_, ?_, rfl, rfl, rfl⟩
  all_goals unfold State.testClosed; rw [State.socket_setSocket_self]
  · rfl
  · exact hs
  · exact hb

/-- What a closure leaves, as O7 says it: the expiry directly after, and, where no head takes work, all of it. -/
theorem Closing.leaves {s : State} {i : Site} {t : State} (h : Closing s i t) (hq : s.request i = none) :
    (t.direct i ((s.profile i).release * 1000) =
      if (s.profile i).release = 0 then { t with trailing := .expiry i :: t.trailing } else t) ∧
    ((s.profile i).release ≠ 0 ∨ (s.noTakers ∧ (s.socket i).bound = none) →
      (t.direct i ((s.profile i).release * 1000)).finish =
        .next (if (s.profile i).release ≠ 0 then t
          else (t.setSocket i { t.socket i with state := .unloadReady, timer := .stopped }).setRequest i
            (some { kind := if (s.socket i).stop = StopPending.none ∧ (s.siteCfg i).level ≠ 0 then .swap else .unload,
                    raised := t.time }))) := by
  have hp : t.profile i = s.profile i := State.profile_congr h.shadow i
  constructor
  · by_cases hd : (s.profile i).release = 0
    · rw [if_pos hd, hd]; rfl
    · rw [if_neg hd, State.direct_of_ne _ _ (by omega)]
  · intro alone
    have hl : t.siteCfg i = s.siteCfg i := by simp [State.siteCfg, State.cfg, h.shadow]
    have hn (n : s.noTakers) : t.noTakers := fun g => by rw [State.head, h.heads]; exact n g
    rw [← hp, State.closed_finish h.rest h.state h.timer (h.request.trans hq)
      (by rw [hp, h.bound]; exact alone.imp id (And.imp hn id)), State.unloadReady, hl]
    simp only [h.stop]

end Sys2Proof.Machine

open Sys2Proof Sys2Proof.Machine in
/-- Settles O7: each closure is `testClosed` with its notice, and its release timer is judged once for all three. -/
theorem testClosures : Obligations.TestClosures := by
  intro s i u r hr hu hst hunit hrec hq alone k d stays closed ended direct leaves elapsed counted
  have concluded (c : Instr) (t : State) (hc : Closing s i t) (he : exec c s = (t.direct i d).finish) : leaves c t :=
    ⟨he.trans (congrArg State.finish (hc.leaves hq).1), fun ha => he.trans ((hc.leaves hq).2 ha)⟩
  have same (x : Nat) (ready : Bool) (b : Fin 64) (ms : Nat) (late : LateMarker) (bad : Nat) :
      closed { s with time := x } ready b ms late bad =
        State.testClosed { s with time := x } i u (r.closed s.cfg.bins[b] { site := i, bin := b, duration := ms } late) late
          { k with ready := ready, bad := bad } := by
    rw [UnitRecord.closed_eq]; rfl
  have closing (x : Nat) (ready : Bool) (b : Fin 64) (ms : Nat) (late : LateMarker) (bad : Nat) :
      Closing s i (closed { s with time := x } ready b ms late bad) := by
    rw [same]
    have h := State.testClosed_closing (s := { s with time := x }) hr i u
      (r.closed s.cfg.bins[b] { site := i, bin := b, duration := ms } late) late { k with ready := ready, bad := bad } rfl rfl
    exact ⟨h.rest, h.state, h.timer, h.stop, h.bound, h.request, h.shadow, h.heads⟩
  refine ⟨?_, fun hs => concluded _ _ ((closing s.time false 62 elapsed .drop counted).raise _ _) ?_,
    fun e limit ht hs => concluded _ _ ((closing (max s.time e) k.ready 61 (limit / 1000) .timeout counted).raise _ _) ?_⟩
  · intro bin b hb
    obtain rfl := binEntry_eq hb
    intro e bad hs
    refine concluded _ _ (closing s.time k.ready _ elapsed .none bad) ?_
    rw [exec_endOfTest s i bin hu, State.takeEnd, if_pos hst]
    exact congrArg State.finish ((State.closeTest_of_staying hunit hrec hq _ _ .none _ hs).trans
      (congrArg (fun t => State.direct t i d) (same s.time k.ready _ elapsed .none bad).symm))
  · rw [exec_ready s i false hu, s.takeReady_drop hst]
    have hd := State.siteDrop_of_staying (s := s.setSocket i { s.socket i with ready := false }) (i := i) (r := r)
      (by rw [State.socket_setSocket_self]; exact hunit) hrec hq (by rw [State.socket_setSocket_self]; exact hs)
    have hel : (s.setSocket i { s.socket i with ready := false }).elapsed i = elapsed := by
      unfold State.elapsed
      rw [State.socket_setSocket_self]
      rfl
    rw [hd, State.testClosed_setSocket, State.socket_setSocket_self, hel]
    exact congrArg (fun t => (State.direct ((State.raise t _).setFlag .site) i d).finish)
      (same s.time false 62 elapsed .drop counted).symm
  · refine (exec_of_running ht).trans ?_
    rw [State.timerExpired_endOfTest hst ht, State.eotExpired_of_staying (s := s.reach e) hunit hrec hq ht hs]
    exact congrArg (fun t => (State.direct ((State.raise t _).setFlag .site) i d).finish)
      (same (max s.time e) k.ready 61 (limit / 1000) .timeout counted).symm
end

section
set_option Elab.async false

namespace Sys2Proof.Machine

/-! ## The bytes of a slot (section 8.4) -/

theorem readByte_writeWord (m : List Host.Cell) (a b : Nat) (w : Word) (hb : b < 4) (h : writable (a + b) = true) :
    readByte (writeWord m a w) (a + b) = w.extractLsb' (8 * b) 8 := by
  obtain rfl | rfl | rfl | rfl : b = 0 ∨ b = 1 ∨ b = 2 ∨ b = 3 := by omega
  all_goals
    revert h
    simp +contextual [writeWord, readByte_writeByte]

theorem readByte_writeWords (m : List Host.Cell) (a j b : Nat) (ws : List Word) (hj : j < ws.length) (hb : b < 4)
    (h : writable (a + 4 * j + b) = true) : readByte (writeWords m a ws) (a + 4 * j + b) = (ws[j]).extractLsb' (8 * b) 8 := by
  induction ws generalizing m a j with
  | nil => exact absurd hj (Nat.not_lt_zero _)
  | cons w ws ih =>
    cases j with
    | zero =>
      rw [writeWords, readByte_writeWords_of_outside _ _ _ _ (by omega)]
      exact readByte_writeWord m a b w hb h
    | succ j =>
      have e : a + 4 * (j + 1) + b = a + 4 + 4 * j + b := by omega
      rw [e] at h ⊢
      exact ih _ _ _ (by simpa using hj) h

theorem readWord_writeWords (m : List Host.Cell) (a j : Nat) (ws : List Word) (hj : j < ws.length)
    (h : ∀ b < 4, writable (a + 4 * j + b) = true) : readWord (writeWords m a ws) (a + 4 * j) = ws[j] := by
  induction ws generalizing m a j with
  | nil => exact absurd hj (Nat.not_lt_zero _)
  | cons w ws ih =>
    have apart : ∀ (n : List Host.Cell) (l : List Word) (c : Nat), a + 4 ≤ c → readWord (writeWords n c l) a = readWord n a := by
      intro n l c hc
      simp only [readWord]
      rw [readByte_writeWords_of_outside _ _ _ _ (by omega), readByte_writeWords_of_outside _ _ _ _ (by omega),
        readByte_writeWords_of_outside _ _ _ _ (by omega), readByte_writeWords_of_outside _ _ _ _ (by omega)]
    cases j with
    | zero =>
      refine (apart (writeWord m a w) ws (a + 4) (Nat.le_refl _)).trans ?_
      exact readWord_writeWord m a w (by simpa using h 0 (by omega)) (h 1 (by omega)) (h 2 (by omega)) (h 3 (by omega))
    | succ j =>
      have e : a + 4 * (j + 1) = a + 4 + 4 * j := by omega
      rw [e] at h ⊢
      exact ih _ _ _ (by simpa using hj) h

theorem writable_slot (k : SlotId) (o : Nat) (h : o < 64) : writable (Config.slotBase k + o) = true := by
  have hk := k.isLt
  unfold Config.slotBase writable
  simp only [Bool.or_eq_true, Bool.and_eq_true]
  exact .inl ⟨decide_eq_true (by omega), decide_eq_true (by omega)⟩

/-- The bytes of a word put together from four. -/
theorem packBytes_extract (b0 b1 b2 b3 : Nat) :
    (packBytes b0 b1 b2 b3).extractLsb' 0 8 = BitVec.ofNat 8 b0 ∧ (packBytes b0 b1 b2 b3).extractLsb' 8 8 = BitVec.ofNat 8 b1 ∧
    (packBytes b0 b1 b2 b3).extractLsb' 16 8 = BitVec.ofNat 8 b2 ∧ (packBytes b0 b1 b2 b3).extractLsb' 24 8 = BitVec.ofNat 8 b3 := by
  unfold packBytes
  generalize BitVec.ofNat 8 b0 = x
  generalize BitVec.ofNat 8 b1 = y
  generalize BitVec.ofNat 8 b2 = z
  generalize BitVec.ofNat 8 b3 = w
  refine ⟨?_, ?_, ?_, ?_⟩
  all_goals
    apply BitVec.eq_of_getLsbD_eq
    intro i hi
    simp only [BitVec.getLsbD_extractLsb', BitVec.getLsbD_append, hi, decide_true, Bool.true_and]
    split_ifs
    all_goals first | omega | (congr 1; omega)

theorem presentMask_eq (n : Notice) :
    BitVec.ofNat 8 (presentMask n) =
      (if n.head = none then 0#8 else 1#8) ||| (if n.nozzle = none then 0#8 else 2#8) |||
        (if n.site = none then 0#8 else 4#8) ||| (if n.station = none then 0#8 else 8#8) |||
        (if n.serial = none then 0#8 else 16#8) ||| (if n.bin = none then 0#8 else 32#8) |||
        (if n.cause = none then 0#8 else 64#8) := by
  have bits : ∀ a b c d e f g : Bool,
      BitVec.ofNat 8 (a.toNat + b.toNat * 2 + c.toNat * 4 + d.toNat * 8 + e.toNat * 16 + f.toNat * 32 + g.toNat * 64) =
        (if a then 1#8 else 0#8) ||| (if b then 2#8 else 0#8) ||| (if c then 4#8 else 0#8) ||| (if d then 8#8 else 0#8) |||
          (if e then 16#8 else 0#8) ||| (if f then 32#8 else 0#8) ||| (if g then 64#8 else 0#8) := by decide
  have flip {α : Type} (o : Option α) (x y : Byte) : (if o.isSome then y else x) = if o = none then x else y := by
    cases o <;> rfl
  rw [presentMask, bits]
  simp only [flip]

/-- The memory that a notice written into a slot leaves (R155). -/
def slotWritten (m : List Host.Cell) (k : SlotId) (n : Notice) (sequence : BitVec 16) : List Host.Cell :=
  writeWord (writeWords m (Config.slotBase k + 4) (noticeWords n sequence)) (Config.slotBase k) 1#32

theorem readByte_slotWritten (m : List Host.Cell) (k : SlotId) (n : Notice) (q : BitVec 16) (j b : Nat) (hj : j < 15)
    (hb : b < 4) : readByte (slotWritten m k n q) (Config.slotBase k + (4 + 4 * j + b)) =
      ((noticeWords n q)[j]'(by rw [noticeWords_length]; exact hj)).extractLsb' (8 * b) 8 := by
  unfold slotWritten
  have e : Config.slotBase k + (4 + 4 * j + b) = Config.slotBase k + 4 + 4 * j + b := by omega
  rw [readByte_writeWord_of_outside _ _ _ _ (by omega), e]
  refine readByte_writeWords _ _ _ _ _ _ hb ?_
  rw [← e]
  exact writable_slot k _ (by omega)

theorem readWord_slotWritten (m : List Host.Cell) (k : SlotId) (n : Notice) (q : BitVec 16) (j : Nat) (hj : j < 15) :
    readWord (slotWritten m k n q) (Config.slotBase k + (4 + 4 * j)) =
      (noticeWords n q)[j]'(by rw [noticeWords_length]; exact hj) := by
  unfold slotWritten
  have e : Config.slotBase k + (4 + 4 * j) = Config.slotBase k + 4 + 4 * j := by omega
  rw [readWord_writeWord_of_apart _ _ _ _ (.inr (by omega)), e]
  refine readWord_writeWords _ _ _ _ _ fun b hb => ?_
  rw [show Config.slotBase k + 4 + 4 * j + b = Config.slotBase k + (4 + 4 * j + b) by omega]
  exact writable_slot k _ (by omega)

theorem readWord_slotWritten_state (m : List Host.Cell) (k : SlotId) (n : Notice) (q : BitVec 16) :
    readWord (slotWritten m k n q) (Config.slotBase k) = 1#32 :=
  readWord_writeWord _ _ _ (writable_slot k 0 (by omega)) (writable_slot k 1 (by omega)) (writable_slot k 2 (by omega))
    (writable_slot k 3 (by omega))

/-- A byte outside the slot is as before. -/
theorem readByte_slotWritten_of_outside (m : List Host.Cell) (k : SlotId) (n : Notice) (q : BitVec 16) (b : Nat)
    (h : b < Config.slotBase k ∨ Config.slotBase k + 64 ≤ b) : readByte (slotWritten m k n q) b = readByte m b := by
  unfold slotWritten
  rw [readByte_writeWord_of_outside _ _ _ _ (by omega), readByte_writeWords_of_outside _ _ _ _ (by
    rw [noticeWords_length]; omega)]

theorem sequence_bytes (q : BitVec 16) : BitVec.ofNat 8 (q.toNat / 256) ++ BitVec.ofNat 8 (q.toNat % 256) = q := by
  apply BitVec.eq_of_toNat_eq
  rw [BitVec.toNat_append, BitVec.toNat_ofNat, BitVec.toNat_ofNat, ← Nat.shiftLeft_add_eq_or_of_lt (Nat.mod_lt _ (by decide)),
    Nat.shiftLeft_eq]
  have := q.isLt
  omega

/-- The bytes 0x06 to 0x0F of a slot written (section 8.4). -/
theorem slotByte_header (m : List Host.Cell) (k : SlotId) (n : Notice) (q : BitVec 16) (j : Nat) (hj : j < 10) :
    readByte (slotWritten m k n q) (0x1000 + k.val * 0x40 + 6 + j) = (noticeBytes n).getD j 0#8 := by
  have byte (J B : Nat) (hJ : J < 15) (hB : B < 4) := readByte_slotWritten m k n q J B hJ hB
  have p0 := packBytes_extract (q.toNat % 256) (q.toNat / 256) n.kind.code (presentMask n)
  have p1 := packBytes_extract ((n.head.map HeadId.code).getD 0) ((n.nozzle.map Fin.val).getD 0)
    ((n.site.map Fin.val).getD 0) ((n.station.map Station.code).getD 0)
  have p2 := packBytes_extract (pocketField n) ((n.bin.map BitVec.toNat).getD 0) ((n.cause.map LossCause.code).getD 0)
    n.suppressed
  have e (J B : Nat) (h : 6 + j = 4 + 4 * J + B) :
      0x1000 + k.val * 0x40 + 6 + j = Config.slotBase k + (4 + 4 * J + B) := by unfold Config.slotBase; omega
  match j, hj with
  | 0, _ => rw [e 0 2 rfl]; exact (byte 0 2 (by omega) (by omega)).trans p0.2.2.1
  | 1, _ => rw [e 0 3 rfl]; exact (byte 0 3 (by omega) (by omega)).trans (p0.2.2.2.trans (presentMask_eq n))
  | 2, _ =>
    rw [e 1 0 rfl]; refine (byte 1 0 (by omega) (by omega)).trans (p1.1.trans ?_)
    unfold noticeBytes
    rcases n.head with _ | _ | _ <;> rfl
  | 3, _ =>
    rw [e 1 1 rfl]; refine (byte 1 1 (by omega) (by omega)).trans (p1.2.1.trans ?_)
    unfold noticeBytes
    cases n.nozzle <;> rfl
  | 4, _ =>
    rw [e 1 2 rfl]; refine (byte 1 2 (by omega) (by omega)).trans (p1.2.2.1.trans ?_)
    unfold noticeBytes
    cases n.site <;> rfl
  | 5, _ =>
    rw [e 1 3 rfl]; refine (byte 1 3 (by omega) (by omega)).trans (p1.2.2.2.trans ?_)
    unfold noticeBytes
    cases n.station <;> rfl
  | 6, _ =>
    rw [e 2 0 rfl]; refine (byte 2 0 (by omega) (by omega)).trans (p2.1.trans ?_)
    unfold noticeBytes pocketField
    rcases n.station with _ | _
    · rfl
    · rcases n.pocket with _ | _ <;> rfl
  | 7, _ =>
    rw [e 2 1 rfl]; refine (byte 2 1 (by omega) (by omega)).trans (p2.2.1.trans ?_)
    unfold noticeBytes
    cases n.bin with
    | none => rfl
    | some b => exact BitVec.eq_of_toNat_eq (by simp)
  | 8, _ =>
    rw [e 2 2 rfl]; refine (byte 2 2 (by omega) (by omega)).trans (p2.2.2.1.trans ?_)
    unfold noticeBytes
    cases n.cause <;> rfl
  | 9, _ => rw [e 2 3 rfl]; exact (byte 2 3 (by omega) (by omega)).trans p2.2.2.2

theorem noticeWords_tail (n : Notice) (q : BitVec 16) (j : Nat) (h : j < 10) :
    (noticeWords n q)[j + 5]'(by rw [noticeWords_length]; omega) = 0#32 := by
  interval_cases j <;> rfl

/-- The slot a notice was written into holds it (R155, section 8.4). -/
theorem slotHolds_slotWritten (m : List Host.Cell) (k : SlotId) (n : Notice) (q : BitVec 16) :
    slotHolds (slotWritten m k n q) k n q := by
  have byte (j b : Nat) (hj : j < 15) (hb : b < 4) := readByte_slotWritten m k n q j b hj hb
  have p0 := packBytes_extract (q.toNat % 256) (q.toNat / 256) n.kind.code (presentMask n)
  refine ⟨readWord_slotWritten_state m k n q, ?_, fun j hj => ?_, readWord_slotWritten m k n q 3 (by omega),
    readWord_slotWritten m k n q 4 (by omega), fun j h1 h2 => ?_⟩
  · have h0 := byte 0 0 (by omega) (by omega)
    have h1 := byte 0 1 (by omega) (by omega)
    unfold readHalf
    rw [show 0x1000 + k.val * 0x40 + 4 + 1 = Config.slotBase k + (4 + 4 * 0 + 1) from rfl, h1,
      show 0x1000 + k.val * 0x40 + 4 = Config.slotBase k + (4 + 4 * 0 + 0) from rfl, h0]
    exact (congrArg₂ (· ++ ·) p0.2.1 p0.1).trans (sequence_bytes q)
  · refine slotByte_header m k n q j hj
  · obtain ⟨J, B, hB, rfl⟩ : ∃ J B, B < 4 ∧ j = 4 + 4 * (J + 5) + B := ⟨(j - 24) / 4, (j - 24) % 4, by omega, by omega⟩
    refine (byte (J + 5) B (by omega) hB).trans ?_
    rw [noticeWords_tail n q J (by omega)]
    simp

/-! ## Where a notice goes (R155, R157) -/

theorem lowestFree_of_freeSlot {m : List Host.Cell} {k : SlotId} (h : freeSlot m = some k) : lowestFree m k := by
  unfold freeSlot slotIsFree allSlots at h
  obtain ⟨hk, a, b, hl, hn⟩ := List.find?_eq_some_iff_append.1 h
  refine ⟨eq_of_beq hk, fun j hj hz => ?_⟩
  have hs : (List.finRange 32).Pairwise (· < ·) := List.pairwise_lt_finRange 32
  rw [hl, List.pairwise_append] at hs
  have hja : j ∈ a := by
    have hm := List.mem_finRange j
    rw [hl, List.mem_append, List.mem_cons] at hm
    rcases hm with hm | rfl | hm
    · exact hm
    · exact absurd hj (lt_irrefl _)
    · exact absurd hj (not_lt_of_gt ((List.pairwise_cons.1 hs.2.1).1 j hm))
  have := hn j hja
  rw [show readWord m (Config.slotBase j) = 0#32 from hz] at this
  cases this

theorem lowestFree_unique {m : List Host.Cell} {j k : SlotId} (hj : lowestFree m j) (hk : lowestFree m k) : j = k := by
  rcases lt_trichotomy j k with h | h | h
  · exact absurd hj.1 (hk.2 j h)
  · exact h
  · exact absurd hk.1 (hj.2 k h)

theorem freeSlot_eq_none_iff (m : List Host.Cell) :
    freeSlot m = none ↔ ∀ k : SlotId, readWord m (0x1000 + k.val * 0x40) ≠ 0#32 := by
  simp [freeSlot, allSlots, slotIsFree, Config.slotBase]

theorem freeSlot_of_lowestFree {m : List Host.Cell} {k : SlotId} (h : lowestFree m k) : freeSlot m = some k := by
  cases hf : freeSlot m with
  | none => exact absurd h.1 ((freeSlot_eq_none_iff m).1 hf k)
  | some j => rw [lowestFree_unique (lowestFree_of_freeSlot hf) h]

section
variable (s : State)

/-- The notice with the time of the event that raises it (R155). -/
def State.arrived (s : State) (n : Notice) : Notice := { n with time := s.time / 1000 % 2 ^ 32, suppressed := 0 }

theorem State.raise_of_free (n : Notice) {k : SlotId} (hq : s.board.queue = []) (hk : lowestFree s.mem k) :
    (s.raise n).mem = slotWritten s.mem k (s.arrived n) s.board.sequence ∧
    (s.raise n).board = { s.board with sequence := s.board.sequence + 1#16 } := by
  have hf := freeSlot_of_lowestFree hk
  unfold State.raise
  simp only [State.setFlag_board, State.setFlag_mem, hq, hf]
  unfold State.writeNotice
  simp only [State.setFlag_board, State.setFlag_mem, State.setMem]
  exact ⟨rfl, by rw [hq]⟩

theorem State.raise_of_waiting (n : Notice)
    (h : s.board.queue ≠ [] ∨ ∀ k : SlotId, readWord s.mem (0x1000 + k.val * 0x40) ≠ 0#32) :
    (s.raise n).mem = s.mem ∧ (s.raise n).board = { s.board with queue := enqueue s.board.queue (s.arrived n) } := by
  unfold State.raise
  simp only [State.setFlag_board, State.setFlag_mem]
  split
  · next hq hf =>
    rcases h with h | h
    · exact absurd hq h
    · rw [(freeSlot_eq_none_iff _).2 h] at hf; cases hf
  · exact ⟨by simp, by simp; rfl⟩

theorem State.board_cases :
    (∃ k, s.board.queue = [] ∧ lowestFree s.mem k) ∨
      (s.board.queue ≠ [] ∨ ∀ k : SlotId, readWord s.mem (0x1000 + k.val * 0x40) ≠ 0#32) := by
  by_cases hq : s.board.queue = []
  · cases hf : freeSlot s.mem with
    | none => exact .inr (.inr ((freeSlot_eq_none_iff _).1 hf))
    | some k => exact .inl ⟨k, hq, lowestFree_of_freeSlot hf⟩
  · exact .inr (.inl hq)

end

/-! ## A notice stays where it went -/

/-- Flags set stay set, a slot that is not FREE keeps its bytes, and a queued notice stays queued, but for its suppressed
count. -/
structure BoardKept (s t : State) : Prop where
  flags : ∀ b : Nat, s.regs.attention.getLsbD b = true → t.regs.attention.getLsbD b = true
  slots : ∀ k : SlotId, readWord s.mem (Config.slotBase k) ≠ 0#32 → ∀ o : Nat, o < 64 →
    readByte t.mem (Config.slotBase k + o) = readByte s.mem (Config.slotBase k + o)
  queue : ∀ m ∈ s.board.queue, ∃ m' ∈ t.board.queue, ({ m' with suppressed := 0 } : Notice) = { m with suppressed := 0 }

theorem readWord_congr {m n : List Host.Cell} {a : Nat} (h : ∀ b < 4, readByte n (a + b) = readByte m (a + b)) :
    readWord n a = readWord m a := by
  unfold readWord
  rw [h 1 (by omega), h 2 (by omega), h 3 (by omega), show readByte n a = readByte m a from h 0 (by omega)]

theorem BoardKept.refl (s : State) : BoardKept s s := ⟨fun _ => id, fun _ _ _ _ => rfl, fun m hm => ⟨m, hm, rfl⟩⟩

theorem BoardKept.trans {s t u : State} (h : BoardKept s t) (k : BoardKept t u) : BoardKept s u := by
  refine ⟨fun b hb => k.flags b (h.flags b hb), fun j hj o ho => ?_, fun m hm => ?_⟩
  · have hw : readWord t.mem (Config.slotBase j) = readWord s.mem (Config.slotBase j) :=
      readWord_congr fun b hb => h.slots j hj b (by omega)
    exact (k.slots j (by rwa [hw]) o ho).trans (h.slots j hj o ho)
  · obtain ⟨m', hm', e⟩ := h.queue m hm
    obtain ⟨m'', hm'', e'⟩ := k.queue m' hm'
    exact ⟨m'', hm'', e'.trans e⟩

/-- Neither the board nor a byte below the tray frames changed. -/
theorem BoardKept.of_low {s t : State} (hf : ∀ b : Nat, s.regs.attention.getLsbD b = true → t.regs.attention.getLsbD b = true)
    (hm : ∀ a : Nat, a < 0x4000 → readByte t.mem a = readByte s.mem a) (hb : t.board = s.board) : BoardKept s t := by
  refine ⟨hf, fun k _ o ho => hm _ ?_, fun m h => ⟨m, by rwa [hb], rfl⟩⟩
  have := k.isLt
  unfold Config.slotBase
  omega

theorem BoardKept.of_same {s t : State} (hr : t.regs = s.regs := by rfl) (hm : t.mem = s.mem := by rfl)
    (hb : t.board = s.board := by rfl) : BoardKept s t :=
  BoardKept.of_low (fun b h => by rwa [hr]) (fun a _ => by rw [hm]) hb

theorem BoardKept.setFlag (s : State) (c : AttentionClass) : BoardKept s (s.setFlag c) :=
  BoardKept.of_low (fun b h => by rw [State.setFlag_attention, BitVec.getLsbD_or, h, Bool.true_or]) (fun a _ => by simp)
    (by simp)

theorem suppressNewest_keeps : ∀ (q : List Notice), ∀ m ∈ q,
    ∃ m' ∈ suppressNewest q, ({ m' with suppressed := 0 } : Notice) = { m with suppressed := 0 }
  | [], _, hm => absurd hm List.not_mem_nil
  | [x], m, hm => by
    obtain rfl := List.mem_singleton.1 hm
    unfold suppressNewest
    exact ⟨_, List.mem_singleton_self _, rfl⟩
  | x :: y :: rest, m, hm => by
    unfold suppressNewest
    rcases List.mem_cons.1 hm with rfl | hm
    · exact ⟨m, List.mem_cons_self, rfl⟩
    · obtain ⟨m', hm', e⟩ := suppressNewest_keeps (y :: rest) m hm
      exact ⟨m', List.mem_cons_of_mem _ hm', e⟩

theorem enqueue_keeps (q : List Notice) (n : Notice) :
    ∀ m ∈ q, ∃ m' ∈ enqueue q n, ({ m' with suppressed := 0 } : Notice) = { m with suppressed := 0 } := by
  unfold enqueue
  split
  · exact fun m hm => ⟨m, List.mem_append_left _ hm, rfl⟩
  · exact suppressNewest_keeps q

theorem BoardKept.raise (s : State) (n : Notice) : BoardKept s (s.raise n) := by
  have flags : ∀ b : Nat, s.regs.attention.getLsbD b = true → (s.raise n).regs.attention.getLsbD b = true := fun b h => by
    rw [State.raise_attention, BitVec.getLsbD_or, h, Bool.true_or]
  rcases s.board_cases with ⟨k, hq, hk⟩ | hw
  · obtain ⟨hm, hb⟩ := s.raise_of_free n hq hk
    refine ⟨flags, fun j hj o ho => ?_, fun m hm' => by rw [hq] at hm'; cases hm'⟩
    have hne : j ≠ k := fun e => hj (e ▸ hk.1)
    rw [hm, readByte_slotWritten_of_outside]
    have := Fin.val_ne_of_ne hne
    unfold Config.slotBase
    omega
  · obtain ⟨hm, hb⟩ := s.raise_of_waiting n hw
    refine ⟨flags, fun j _ o _ => by rw [hm], ?_⟩
    rw [hb]
    exact enqueue_keeps _ _

/-- A notice raised first is where R155 puts it. -/
theorem noticed_raise {s u : State} (n : Notice) (hm : u.mem = s.mem) (hb : u.board = s.board) (ht : u.time = s.time) :
    noticed s (u.raise n) n := by
  have ha : u.arrived n = s.arrived n := by unfold State.arrived; rw [ht]
  refine ⟨u.raise_bit n, fun k hq hk => ?_, fun hw hl => ?_⟩
  · obtain ⟨hm', _⟩ := u.raise_of_free n (by rwa [hb]) (by rwa [hm])
    rw [hm', ha, hb]
    exact slotHolds_slotWritten _ _ _ _
  · obtain ⟨_, hb'⟩ := u.raise_of_waiting n (by rwa [hb, hm])
    rw [hb', ha, hb]
    refine ⟨s.arrived n, ?_, rfl⟩
    unfold enqueue Config.queueRoom
    rw [if_pos hl]
    exact List.mem_append_right _ (List.mem_singleton.2 rfl)

theorem noticed.from_same {s v t : State} {n : Notice} (h : noticed v t n) (hm : v.mem = s.mem) (hb : v.board = s.board)
    (ht : v.time = s.time) : noticed s t n := by
  unfold noticed at h ⊢
  rwa [hm, hb, ht] at h

theorem slotHolds.kept {m m' : List Host.Cell} {k : SlotId} {n : Notice} {q : BitVec 16} (h : slotHolds m k n q)
    (same : ∀ o : Nat, o < 64 → readByte m' (Config.slotBase k + o) = readByte m (Config.slotBase k + o)) :
    slotHolds m' k n q := by
  obtain ⟨hs, hq, hh, hser, ht, hz⟩ := h
  have byte (a o : Nat) (e : a = Config.slotBase k + o) (ho : o < 64) : readByte m' a = readByte m a := by
    rw [e]; exact same o ho
  have word (o : Nat) (ho : o + 3 < 64) : readWord m' (Config.slotBase k + o) = readWord m (Config.slotBase k + o) :=
    readWord_congr fun b hb => byte _ (o + b) (by omega) (by omega)
  refine ⟨(word 0 (by omega)).trans hs, ?_, fun j hj => ?_, (word 0x10 (by omega)).trans hser, (word 0x14 (by omega)).trans ht,
    fun j h1 h2 => (byte _ j rfl h2).trans (hz j h1 h2)⟩
  · rw [← hq]
    unfold readHalf
    rw [byte (0x1000 + k.val * 0x40 + 4 + 1) 5 rfl (by omega), byte (0x1000 + k.val * 0x40 + 4) 4 rfl (by omega)]
  · rw [← hh j hj]
    exact byte _ (6 + j) (by unfold Config.slotBase; omega) (by omega)

theorem noticed.kept {s u t : State} {n : Notice} (h : noticed s u n) (k : BoardKept u t) : noticed s t n := by
  obtain ⟨hf, hs, hq⟩ := h
  refine ⟨k.flags _ hf, fun j hj hl => ?_, fun hw hl => ?_⟩
  · have hj' := hs j hj hl
    exact hj'.kept (k.slots j (by rw [show readWord u.mem (Config.slotBase j) = 1#32 from hj'.1]; decide))
  · obtain ⟨m, hm, e⟩ := hq hw hl
    obtain ⟨m', hm', e'⟩ := k.queue m hm
    exact ⟨m', hm', e'.trans e⟩

end Sys2Proof.Machine
end

section
set_option Elab.async false

namespace Sys2Proof.Machine

/-! ## Units checked again (R46, R47): the records and selections for the heads, at most one for each nozzle -/

theorem State.rerouteNozzle_eq (s : State) (h : HeadId) (k : Nozzle) : ∃ (r : Vector (Option UnitRecord) 64) (l : List Task),
    l.length ≤ 1 ∧ (∀ x ∈ l, ∃ g, x = .selectHead g) ∧
      s.rerouteNozzle h k = { s with units := { s.units with records := r }, agenda := s.agenda ++ l } := by
  have same : ∃ (r : Vector (Option UnitRecord) 64) (l : List Task), l.length ≤ 1 ∧ (∀ x ∈ l, ∃ g, x = Task.selectHead g) ∧
      s = { s with units := { s.units with records := r }, agenda := s.agenda ++ l } :=
    ⟨s.units.records, [], by simp, by simp, by simp⟩
  unfold State.rerouteNozzle
  split
  · exact same
  · split
    · exact same
    · split
      · exact same
      · exact ⟨_, [.selectHead h], by simp, by simp, rfl⟩

theorem State.rerouteNozzles_eq (h : HeadId) (ks : List Nozzle) (s : State) :
    ∃ (r : Vector (Option UnitRecord) 64) (l : List Task), l.length ≤ ks.length ∧ (∀ x ∈ l, ∃ g, x = .selectHead g) ∧
      ks.foldl (fun s k => s.rerouteNozzle h k) s =
        { s with units := { s.units with records := r }, agenda := s.agenda ++ l } := by
  induction ks generalizing s with
  | nil => exact ⟨s.units.records, [], by simp, by simp, by simp⟩
  | cons k ks ih =>
    obtain ⟨r, l, hl, ht, e⟩ := s.rerouteNozzle_eq h k
    obtain ⟨r', l', hl', ht', e'⟩ := ih (s.rerouteNozzle h k)
    refine ⟨r', l ++ l', by simp; omega, fun x hx => (List.mem_append.1 hx).elim (ht x) (ht' x), ?_⟩
    rw [List.foldl_cons, e', e]
    simp

theorem State.reroute_eq (s : State) : ∃ (r : Vector (Option UnitRecord) 64) (l : List Task),
    l.length ≤ 8 ∧ (∀ x ∈ l, ∃ g, x = .selectHead g) ∧
      s.reroute = { s with units := { s.units with records := r }, agenda := s.agenda ++ l } := by
  unfold State.reroute
  split
  · exact ⟨s.units.records, [], by simp, by simp, by simp⟩
  · obtain ⟨r, l, hl, ht, e⟩ := State.rerouteNozzles_eq .a allNozzles s
    obtain ⟨r', l', hl', ht', e'⟩ := State.rerouteNozzles_eq .b allNozzles (allNozzles.foldl (fun s k => s.rerouteNozzle .a k) s)
    refine ⟨r', l ++ l', ?_, fun x hx => (List.mem_append.1 hx).elim (ht x) (ht' x), ?_⟩
    · have : allNozzles.length = 4 := rfl
      simp; omega
    · rw [e', e]
      simp

theorem State.reportUnusable_eq (s : State) (i : Site) (b : Bool) : ∃ (r : Vector (Option UnitRecord) 64) (l : List Task),
    l.length ≤ 8 ∧ (∀ x ∈ l, ∃ g, x = .selectHead g) ∧
      s.reportUnusable i b = { s with units := { s.units with records := r }, agenda := s.agenda ++ l } := by
  unfold State.reportUnusable
  split
  · exact s.reroute_eq
  · exact ⟨s.units.records, [], by simp, by simp, by simp⟩

/-! ## Selections that find no head, before what is taken directly after the event -/

theorem cascade_selections (n : Nat) (s : State) (h : s.noTakers) (ha : ∀ t ∈ s.agenda, t.isSelection = true) :
    cascade (n + s.agenda.length) s = cascade n { s with agenda := [] } := by
  generalize hl : s.agenda = l at ha
  induction l generalizing s with
  | nil =>
    have e : ({ s with agenda := [] } : State) = s := by rw [← hl]
    rw [e]; rfl
  | cons x rest ih =>
    rw [List.length_cons, ← Nat.add_assoc, cascade_agenda s _ hl,
      State.noTakers.runTask (s := { s with agenda := rest }) h x (ha x List.mem_cons_self)]
    exact ih { s with agenda := rest } h rfl fun t ht => ha t (List.mem_cons_of_mem _ ht)

theorem State.finish_selections (s : State) (h : s.noTakers) (ha : ∀ t ∈ s.agenda, t.isSelection = true)
    (hl : s.agenda.length ≤ 1000) : ∃ n : Nat, s.finish = .next (cascade (n + 2) { s with agenda := [] }) := by
  obtain ⟨n, hn⟩ : ∃ n : Nat, Config.cascadeFuel = n + 2 + s.agenda.length := ⟨100000000 - 2 - s.agenda.length, by
    rw [show Config.cascadeFuel = 100000000 from rfl]; omega⟩
  refine ⟨n, ?_⟩
  rw [State.finish, hn, cascade_selections _ s h ha]

/-! ## A closure with its retirement check (R12) -/

/-- The retirement mark applies (R12). -/
def State.marks (s : State) (i : Site) (bad : Nat) : Prop :=
  (s.siteCfg i).threshold ≠ 0 ∧ (s.siteCfg i).threshold ≤ bad ∧ ((s.socket i).stop = .none ∨ (s.socket i).stop = .disable)

open Classical in
/-- What a closure leaves before its follow-up work, the retirement mark judged. -/
structure Judged (s : State) (i : Site) (bad : Nat) (t : State) : Prop where
  shadow : t.shadow = s.shadow
  heads : t.planner.heads = s.planner.heads
  agenda : t.agenda.length ≤ 8 ∧ ∀ x ∈ t.agenda, x.isSelection = true
  trailing : t.trailing = if (s.profile i).release = 0 then [.expiry i] else []
  socket : t.socket i = { s.socket i with
    state := .releasing
    bad := bad
    stop := if s.marks i bad then .retire else (s.socket i).stop
    timer := .running .release (s.time + (s.profile i).release * 1000) ((s.profile i).release * 1000) }
  marked : s.marks i bad → t.regs.attention.getLsbD AttentionClass.site.bit = true ∧
    noticed s t { kind := .siteRetired, site := some i }

theorem State.updateRequests_unwanted_eq {s : State} {i : Site} (h : s.wanted i = none) :
    s.updateRequests i = { s with planner := { s.planner with requests := (s.updateRequests i).planner.requests } } := by
  rw [State.updateRequests_of_unwanted h]
  split <;> rfl

theorem State.closeUnit_eq (s : State) (i : Site) (b : Fin 64) (ms : Nat) (late : LateMarker) :
    s.closeUnit i b ms late = { s with units := (s.closeUnit i b ms late).units } := by
  unfold State.closeUnit
  split <;> rfl

/-- What a closure leaves before the retirement check. -/
structure Counted (s : State) (i : Site) (bad : Nat) (t : State) : Prop where
  shadow : t.shadow = s.shadow
  heads : t.planner.heads = s.planner.heads
  agenda : t.agenda = []
  trailing : t.trailing = if (s.profile i).release = 0 then [.expiry i] else []
  socket : t.socket i = { s.socket i with
    state := .releasing
    bad := bad
    timer := .running .release (s.time + (s.profile i).release * 1000) ((s.profile i).release * 1000) }
  mem : t.mem = s.mem
  board : t.board = s.board
  time : t.time = s.time

theorem State.closeTest_counted {s : State} (hr : s.atRest) (i : Site) (b : Fin 64) (ms : Nat) (late : LateMarker) (bad : Nat) :
    ∃ t : State, Counted s i bad t ∧ s.closeTest i b ms late bad = t.retireCheck i := by
  refine ⟨_, ?_, rfl⟩
  rw [State.closeUnit_eq]
  generalize (s.closeUnit i b ms late).units = U
  simp only
  rw [State.enterTimed_cycle _ i .releasing (k := .release) nofun, State.setSocket_direct, State.socket_direct,
    State.socket_setSocket_self, State.setSocket_setSocket, State.updateRequests_unwanted_eq
      (State.wanted_of_other (by simp) (by simp))]
  generalize (State.updateRequests _ i).planner.requests = R
  simp only [State.direct]
  split
  · next hd =>
    have h0 : (s.profile i).release = 0 := by
      have : (s.profile i).release * 1000 = 0 := hd
      omega
    exact ⟨rfl, rfl, hr.1, by rw [if_pos h0]; exact congrArg (List.cons _) hr.2, by
      rw [State.socket]; exact State.socket_setSocket_self _ i _, rfl, rfl, rfl⟩
  · next hd =>
    have h0 : (s.profile i).release ≠ 0 := fun h => hd (show (s.profile i).release * 1000 = 0 by rw [h])
    exact ⟨rfl, rfl, hr.1, by rw [if_neg h0]; exact hr.2, State.socket_setSocket_self _ i _, rfl, rfl, rfl⟩

theorem Counted.judged {s : State} {i : Site} {bad : Nat} {t : State} (h : Counted s i bad t) :
    Judged s i bad (t.retireCheck i) := by
  have hl : t.siteCfg i = s.siteCfg i := by simp [State.siteCfg, State.cfg, h.shadow]
  by_cases hm : s.marks i bad
  · have hm' : (t.siteCfg i).threshold ≠ 0 ∧ (t.siteCfg i).threshold ≤ (t.socket i).bad ∧
        ((t.socket i).stop = .none ∨ (t.socket i).stop = .disable) := by rw [hl, h.socket]; exact hm
    unfold State.retireCheck
    simp only
    rw [if_pos hm', State.updateRequests_unwanted_eq (State.wanted_of_other (by simp [h.socket]) (by simp [h.socket]))]
    generalize (State.updateRequests _ i).planner.requests = R
    generalize hu : (t.setSocket i { t.socket i with stop := .retire }) = u
    have us : u.socket i = { t.socket i with stop := .retire } := by rw [← hu, State.socket_setSocket_self]
    have hn : noticed s (u.raise { kind := .siteRetired, site := some i }) { kind := .siteRetired, site := some i } :=
      noticed_raise _ (by rw [← hu]; exact h.mem) (by rw [← hu]; exact h.board) (by rw [← hu]; exact h.time)
    generalize hv : (u.raise { kind := .siteRetired, site := some i }).setFlag .site = v
    have vs : v.socket i = u.socket i := by rw [← hv]; simp
    have vf : v.regs.attention.getLsbD AttentionClass.site.bit = true := by rw [← hv]; exact State.setFlag_bit _ .site
    have vn : noticed s v { kind := .siteRetired, site := some i } := by rw [← hv]; exact hn.kept (BoardKept.setFlag _ _)
    have ve : v.shadow = t.shadow ∧ v.planner.heads = t.planner.heads ∧ v.agenda = t.agenda ∧ v.trailing = t.trailing := by
      rw [← hv, ← hu]; simp
    obtain ⟨r, l, hlen, hsel, e⟩ :=
      State.reportUnusable_eq { v with planner := { v.planner with requests := R } } i (t.usable i)
    rw [e]
    refine ⟨ve.1.trans h.shadow, ve.2.1.trans h.heads, ?_, ve.2.2.2.trans h.trailing, ?_, fun _ =>
      ⟨vf, vn.kept BoardKept.of_same⟩⟩
    · simp only [ve.2.2.1, h.agenda, List.nil_append]
      exact ⟨hlen, fun x hx => by obtain ⟨g, rfl⟩ := hsel x hx; rfl⟩
    · rw [if_pos hm]
      exact vs.trans (us.trans (by rw [h.socket]))
  · have hm' : ¬((t.siteCfg i).threshold ≠ 0 ∧ (t.siteCfg i).threshold ≤ (t.socket i).bad ∧
        ((t.socket i).stop = .none ∨ (t.socket i).stop = .disable)) := by rw [hl, h.socket]; exact hm
    rw [State.retireCheck_of_staying hm']
    exact ⟨h.shadow, h.heads, by simp [h.agenda], h.trailing, by rw [h.socket, if_neg hm], fun c => absurd c hm⟩

theorem State.closeTest_judged {s : State} (hr : s.atRest) (i : Site) (b : Fin 64) (ms : Nat) (late : LateMarker) (bad : Nat) :
    Judged s i bad (s.closeTest i b ms late bad) := by
  obtain ⟨t, ht, e⟩ := State.closeTest_counted hr i b ms late bad
  rw [e]
  exact ht.judged

/-- The notice of a drop or of a watchdog comes after that of a retirement. -/
theorem Judged.raise {s : State} {i : Site} {bad : Nat} {t : State} (h : Judged s i bad t) (n : Notice) :
    Judged s i bad ((t.raise n).setFlag .site) :=
  ⟨by simpa using h.shadow, by simpa using h.heads, by simpa using h.agenda, by simpa using h.trailing,
    by simpa using h.socket, fun c => ⟨State.setFlag_bit _ .site,
      (h.marked c).2.kept ((BoardKept.raise t n).trans (BoardKept.setFlag _ _))⟩⟩

/-- The follow-up work of a closure with no head taking work (R3, R12, R14). -/
theorem Judged.finish {s : State} {i : Site} {bad : Nat} {t : State} (h : Judged s i bad t) (hn : s.noTakers) :
    ∃ u : State, t.finish = .next u ∧ u.regs = t.regs ∧ u.mem = t.mem ∧ u.board = t.board ∧
      u.socket i = { t.socket i with
        state := if (s.profile i).release = 0 then .unloadReady else .releasing
        timer := if (s.profile i).release = 0 then .stopped else (t.socket i).timer } := by
  have ht : t.noTakers := fun g => by rw [State.head, h.heads]; exact hn g
  obtain ⟨n, e⟩ := t.finish_selections ht h.agenda.2 (h.agenda.1.trans (by decide))
  rw [e]
  have htr := h.trailing
  by_cases hd : (s.profile i).release = 0
  · rw [if_pos hd] at htr
    rw [cascade_trailing { t with agenda := [] } (n + 1) rfl htr]
    rw [show ({ t with agenda := [], trailing := [] } : State).runTask (.expiry i) =
      State.timerExpired { t with agenda := [], trailing := [] } i from rfl]
    have hs : ({ t with agenda := [], trailing := [] } : State).socket i = t.socket i := rfl
    rw [State.timerExpired_release (by rw [hs, h.socket]) (by rw [hs, h.socket])]
    generalize hw : (State.setSocket (State.reach { t with agenda := [], trailing := [] } _) i _) = w
    have ww : w.atRest ∧ w.noTakers ∧ w.regs = t.regs ∧ w.mem = t.mem ∧ w.board = t.board ∧
        w.socket i = { t.socket i with state := .unloadReady, timer := .stopped } := by
      rw [← hw, State.socket_setSocket_self]
      exact ⟨⟨rfl, rfl⟩, ht, rfl, rfl, rfl, rfl⟩
    obtain ⟨wr, wn, w1, w2, w3, w4⟩ := ww
    by_cases hb : (w.socket i).bound = none
    · rw [State.updateRequests_cascade n wr wn hb]
      exact ⟨_, rfl, w1, w2, w3, w4.trans (by simp [hd])⟩
    · rw [State.updateRequests_of_bound hb, cascade_rest _ _ wr]
      exact ⟨_, rfl, w1, w2, w3, w4.trans (by simp [hd])⟩
  · rw [if_neg hd] at htr
    rw [cascade_rest { t with agenda := [] } _ ⟨rfl, htr⟩]
    refine ⟨_, rfl, rfl, rfl, rfl, ?_⟩
    rw [if_neg hd, if_neg hd]
    have : (t.socket i).state = .releasing := by rw [h.socket]
    rw [← this]
    rfl

end Sys2Proof.Machine

open Sys2Proof Sys2Proof.Machine in
/-- Settles O8: the check after the closure, with its notice first, and the follow-up work that leaves both as they are. -/
theorem closureRetires : Obligations.ClosureRetires := by
  intro s i c bad now hr hn hu hst k counted marked hc
  have concluded (v t : State) (he : exec c s = t.finish) (hj : Judged v i bad t) (hv : v.noTakers)
      (hvk : (v.socket i).stop = k.stop) (hsh : v.shadow = s.shadow) (hm : v.mem = s.mem) (hb : v.board = s.board)
      (ht : v.time = now) :
      ∃ t : State, exec c s = .next t ∧ (t.socket i).bad = bad ∧
        (t.socket i).state = (if (s.profile i).release = 0 then .unloadReady else .releasing) ∧
        (t.socket i).stop = (if marked then .retire else k.stop) ∧
        (marked → t.regs.attention.getLsbD AttentionClass.site.bit = true ∧
          noticed { s with time := now } t { kind := .siteRetired, site := some i }) := by
    obtain ⟨u, hf, h1, h2, h3, h4⟩ := hj.finish hv
    have hp : v.profile i = s.profile i := State.profile_congr hsh i
    have hmk : v.marks i bad = marked := by
      simp only [State.marks, hvk, State.siteCfg, State.cfg, hsh]; rfl
    refine ⟨u, he.trans hf, ?_, ?_, ?_, fun hmarked => ?_⟩
    · rw [h4, hj.socket]
    · rw [h4, hp]
    · rw [h4, hj.socket, hvk]
      simp only [hmk]
    · obtain ⟨f, q⟩ := hj.marked (by rw [hmk]; exact hmarked)
      rw [h1]
      exact ⟨f, (q.kept (BoardKept.of_same h1 h2 h3)).from_same hm hb ht⟩
  rcases hc with ⟨bin, b, rfl, hb, rfl, rfl⟩ | ⟨rfl, rfl, rfl⟩ | ⟨rfl, rfl, e, d, ht, rfl⟩
  · obtain rfl := binEntry_eq hb
    have he : exec (.endOfTest i.val bin) s = (s.normalEnd i bin).finish := by
      rw [exec_endOfTest s i bin hu, State.takeEnd, if_pos hst]
    exact concluded s _ he (State.closeTest_judged hr i (binEntry bin) (s.elapsed i) .none _) hn rfl rfl rfl rfl rfl
  · generalize hv : s.setSocket i { s.socket i with ready := false } = v at *
    have vk : v.socket i = { s.socket i with ready := false } := by rw [← hv]; exact State.socket_setSocket_self s i _
    have he : exec (.ready i.val false) s = (v.siteDrop i).finish := by
      rw [exec_ready s i false hu, s.takeReady_drop hst, hv]
    have hj : Judged v i counted (v.siteDrop i) := by
      have hb : countedBad (v.socket i).bad = counted := by rw [vk]; rfl
      unfold State.siteDrop
      rw [hb]
      exact (State.closeTest_judged (by rw [← hv]; exact hr) i 62 _ .drop counted).raise _
    exact concluded v _ he hj (by rw [← hv]; exact hn) (by rw [vk]) (by rw [← hv]; rfl) (by rw [← hv]; rfl)
      (by rw [← hv]; rfl) (by rw [← hv]; rfl)
  · have he : exec (.eotWatchdogExpiry i) s = ((s.reach e).eotExpired i).finish :=
      (exec_of_running ht).trans (by rw [State.timerExpired_endOfTest hst ht])
    have hj : Judged (s.reach e) i counted ((s.reach e).eotExpired i) :=
      (State.closeTest_judged (s := s.reach e) hr i 61 _ .timeout counted).raise _
    exact concluded (s.reach e) _ he hj hn rfl rfl rfl rfl rfl
end

section
set_option Elab.async false

namespace Sys2Proof.Machine

/-! ## Reports of actions at a socket (R13, R15, R17, R18) -/

/-- A site with no request pending is unbound in a state that wants none. -/
theorem State.unbind_idle {s : State} {i : Site} (hs : (s.socket i).state ≠ .unloadReady) (he : (s.socket i).state ≠ .empty)
    (hq : s.request i = none) : s.unbind i = s.setSocket i { s.socket i with bound := none } := by
  unfold State.unbind
  exact State.updateRequests_of_idle (State.wanted_of_other (by simpa using hs) (by simpa using he)) hq

theorem State.placedAtSocket_eq {s : State} {i : Site} (u : Handle) (hq : s.request i = none) :
    s.placedAtSocket i u = ((s.send (.contact i)).setSocket i { s.socket i with
        state := .seated
        unit := some u
        bound := none
        timer := .running .contact (s.time + (s.profile i).contact * 1000) ((s.profile i).contact * 1000) }).direct i
      ((s.profile i).contact * 1000) := by
  unfold State.placedAtSocket
  simp only
  rw [State.enterTimed_cycle _ i .seated (k := .contact) nofun, State.unbind_idle (by simp) (by simp)
    (by rw [State.direct_request]; exact hq), State.setSocket_direct, State.socket_direct, State.socket_setSocket_self,
    State.setSocket_setSocket, show ((s.setSocket i { s.socket i with unit := some u }).send (.contact i)).socket i =
      { s.socket i with unit := some u } from State.socket_setSocket_self s i _]
  exact congrArg (fun t => State.direct t i _) (State.setSocket_setSocket (s.send (.contact i)) i _ _)

/-- A pick done leaves the socket RECOVERING, bound as given (R15). -/
def State.pickedFrom (s : State) (i : Site) (bound : Option HeadId) : State :=
  s.setSocket i { s.socket i with
    state := .recovering
    unit := none
    bound := bound
    timer := .running .recovery (s.time + (s.profile i).recovery * 1000) ((s.profile i).recovery * 1000) }

theorem State.boundSwap_iff (s : State) (i : Site) :
    s.boundSwap i = true ↔
      ∃ (g : HeadId) (j : Job), (s.socket i).bound = some g ∧ (s.head g).job = some j ∧ j.kind = .swap := by
  unfold State.boundSwap
  split
  · next hb => simp [hb]
  · next g hb =>
    rw [hb]
    cases hj : (s.head g).job with
    | none => simp [hj]
    | some j => simp [hj]

theorem State.boundSwap_congr {s t : State} {i : Site} (hb : (t.socket i).bound = (s.socket i).bound)
    (hp : t.planner = s.planner) : t.boundSwap i = s.boundSwap i := by
  simp only [State.boundSwap, State.head, hb, hp]

@[simp] theorem State.direct_planner (s : State) (i : Site) (d : Nat) : (s.direct i d).planner = s.planner := by
  unfold State.direct; split <;> rfl

theorem State.pickedAtSocket_eq {s : State} {i : Site} (hq : s.request i = none) :
    s.pickedAtSocket i =
      (s.pickedFrom i (if s.boundSwap i = true then (s.socket i).bound else none)).direct i ((s.profile i).recovery * 1000) := by
  have hb : State.boundSwap (((s.setSocket i { s.socket i with unit := none }).enterTimed i .recovering .recovery)) i =
      s.boundSwap i := by
    rw [State.enterTimed_cycle _ i .recovering (k := .recovery) nofun]
    exact State.boundSwap_congr (by simp) (by simp)
  unfold State.pickedAtSocket
  simp only
  rw [hb, State.enterTimed_cycle _ i .recovering (k := .recovery) nofun, State.setSocket_setSocket,
    State.socket_setSocket_self]
  split
  · rfl
  · rw [State.unbind_idle (by simp) (by simp) (by rw [State.direct_request]; exact hq), State.setSocket_direct,
      State.socket_direct, State.socket_setSocket_self, State.setSocket_setSocket]
    rfl

/-- The socket jammed, before its units are checked again (R17, R18). -/
def State.jammed (s : State) (i : Site) (h : HeadId) (k : Nozzle) (serial : Option Word) : State :=
  ((s.setSocket i { s.socket i with state := .jammed, timer := .stopped, bound := none }).raise
    { kind := .socketJam, site := some i, head := some h, nozzle := some k, serial := serial }).setFlag .site

theorem State.jam_eq {s : State} {i : Site} (h : HeadId) (k : Nozzle) (serial : Option Word) (hq : s.request i = none) :
    s.jam i h k serial = if s.usable i = true then (s.jammed i h k serial).reroute else s.jammed i h k serial := by
  unfold State.jam State.enterStopped
  simp only
  rw [State.unbind_idle (s := s.setSocket i _) (by simp) (by simp) hq, State.socket_setSocket_self, State.setSocket_setSocket]
  have hu : (s.jammed i h k serial).usable i = false := by
    simp [State.usable, State.jammed, SocketState.outOfUse]
  unfold State.reportUnusable
  rw [show ((s.setSocket i _).raise _).setFlag .site = s.jammed i h k serial from rfl, hu]
  simp

theorem State.usable_iff {s : State} {i : Site} (h : (s.socket i).state.outOfUse = false) :
    s.usable i = true ↔ (s.socket i).stop = .none ∧ (s.siteCfg i).level ≠ 0 := by
  simp [State.usable, h]

theorem UnitRecord.placeableAt_iff (r : UnitRecord) (i : Site) :
    r.placeableAt i = true ↔ r.state = .fresh ∨ (r.state = .retest ∧ ∀ x ∈ r.attempts, x.site ≠ i) := by
  unfold UnitRecord.placeableAt UnitRecord.hasTried
  cases r.state <;> simp

theorem State.modUnit_of_unit {s : State} {u : Handle} {r : UnitRecord} (h : s.unit u = some r) (f : UnitRecord → UnitRecord) :
    s.modUnit u f = s.setUnit u (some (f r)) := by
  rw [State.modUnit, h, Option.map_some]

/-- A unit of the nozzle placed where it may be (R13, R32, R37). -/
theorem State.socketPlaced_eq {s : State} {h : HeadId} {k : Nozzle} {i : Site} {u : Handle} {r : UnitRecord}
    (hs : (s.socket i).state = .empty) (hk : s.slot h k = some u) (hu : s.unit u = some r) (hp : r.placeableAt i = true) :
    s.socketPlaced h k i u =
      ((s.setSlot h k none).setUnit u (some { r with state := .inSocket, place := .site i })).placedAtSocket i u := by
  unfold State.socketPlaced
  have hh : s.holdsUnit h k u (·.placeableAt i) = true := by simp [State.holdsUnit, hk, hu, hp]
  rw [if_pos ⟨hs, hh⟩]
  simp only
  rw [State.modUnit_of_unit (s := s.setSlot h k none) hu]

theorem State.socketPicked_eq {s : State} {h : HeadId} {k : Nozzle} {i : Site} {u : Handle} {r : UnitRecord}
    (hs : (s.socket i).state = .unloadReady) (hk : s.slot h k = none) (hn : (s.socket i).unit = some u)
    (hu : s.unit u = some r) :
    s.socketPicked h k i =
      ((s.setSlot h k (some u)).setUnit u (some { r with state := .tested, place := .nozzle h k })).pickedAtSocket i := by
  unfold State.socketPicked
  rw [if_pos ⟨hs, hk⟩]
  simp only [hn]
  rw [State.modUnit_of_unit (s := s.setSlot h k (some u)) hu]

/-- The report of a place done at a socket (R13, R32, R37). -/
theorem State.report_placed {s : State} {h : HeadId} {l : Leg} {k : Nozzle} {i : Site} {u : Handle} {r : UnitRecord}
    (hl : l.location = .socket i) (hk : l.kind = .place) (hu : l.unit = some u) (hs : (s.socket i).state = .empty)
    (hn : s.slot h k = some u) (hr : s.unit u = some r) (hp : r.placeableAt i = true) (hq : s.request i = none) :
    s.report h l k true =
      ((((s.setSlot h k none).setUnit u (some { r with state := .inSocket, place := .site i })).send (.contact i)).setSocket i
        { s.socket i with
          state := .seated
          unit := some u
          bound := none
          timer := .running .contact (s.time + (s.profile i).contact * 1000) ((s.profile i).contact * 1000) }).direct i
        ((s.profile i).contact * 1000) := by
  have he : s.report h l k true = s.socketPlaced h k i u := by
    unfold State.report
    simp only [hl, hk, hu]
  rw [he, State.socketPlaced_eq hs hn hr hp, State.placedAtSocket_eq (s := (s.setSlot h k none).setUnit u _) u hq]
  rfl

theorem State.setSlot_job (s : State) (h g : HeadId) (k : Nozzle) (u : Option Handle) :
    ((s.setSlot h k u).head g).job = (s.head g).job := by
  rw [State.setSlot, State.head_setHead]
  split
  · next e => rw [e]
  · rfl

end Sys2Proof.Machine

open Sys2Proof Sys2Proof.Machine in
/-- Settles O12: each report is the record's change with the socket's, and `jam` judges whether the site was usable. -/
theorem socketReports : Obligations.SocketReports := by
  refine ⟨fun s h l k i hl hq => ?_, fun s i k e d ht => exec_of_running ht⟩
  intro n direct jam jammed
  have judged (serial : Option Word) (hu : n.state.outOfUse = false) : jammed serial (s.jam i h k serial) := by
    rw [State.jam_eq h k serial hq]
    refine ⟨fun c => if_pos ((State.usable_iff hu).2 c), fun c => if_neg fun c' => ?_⟩
    obtain ⟨a, b⟩ := (State.usable_iff hu).1 c'
    exact c.elim (fun c => c a) (fun c => b c)
  refine ⟨fun u r hk hs hu hn hr hp => ?_, fun u r hk hs hu hn hr => ?_, fun hk hs => ?_, fun hk hs => ?_⟩
  · exact State.report_placed hl hk hu hs hn hr ((r.placeableAt_iff i).2 hp) hq
  · intro d swap out
    have he : s.report h l k true = s.socketPicked h k i := by
      unfold State.report
      simp only [hl, hk]
    rw [he, State.socketPicked_eq hs hn hu hr, State.pickedAtSocket_eq (s := (s.setSlot h k (some u)).setUnit u _) hq]
    generalize ht : (s.setSlot h k (some u)).setUnit u (some { r with state := .tested, place := .nozzle h k }) = t
    have hsw : t.boundSwap i = true ↔ swap := by
      rw [State.boundSwap_iff, ← ht]
      refine exists_congr fun g => exists_congr fun j => and_congr Iff.rfl (and_congr ?_ Iff.rfl)
      rw [← State.setSlot_job s h g k (some u)]
      rfl
    exact ⟨fun c => by rw [if_pos (hsw.2 c), ← ht]; rfl, fun c => by rw [if_neg fun b => c (hsw.1 b), ← ht]; rfl⟩
  · have he : s.report h l k false = s.jam i h k (s.socketSerial i) := by
      unfold State.report
      simp only [hl, hk]
      exact if_pos hs
    rw [he]
    exact judged _ (by rw [hs]; rfl)
  · have he : s.report h l k false = s.jam i h k none := by
      unfold State.report
      simp only [hl, hk]
      exact if_pos hs
    rw [he]
    exact judged _ (by rw [hs]; rfl)
end

section
set_option Elab.async false

namespace Sys2Proof.Machine

/-! ## Reports in HALTED (R124) -/

@[simp] theorem Pair.set_set {α : Type} (p : Pair α) (h : HeadId) (a b : α) : (p.set h a).set h b = p.set h b := by
  cases h <;> rfl

@[simp] theorem State.setHead_setHead (s : State) (h : HeadId) (a b : HeadRecord) :
    (s.setHead h a).setHead h b = s.setHead h b := by
  simp [State.setHead]

theorem State.takeArrived_of_halted {s : State} {h : HeadId} {x y : Nat} {px py : Fin 4} {w : Watchdog}
    (hc : s.control.state = .halted) (hl : s.link.get h = .travel x y px py w) :
    s.takeArrived h = (s.setCommand h .empty).setHead h { s.head h with x := x, y := y, legs := [] } := by
  unfold State.takeArrived
  simp only [hl]
  exact if_pos (State.isIn_eq_true hc)

theorem State.takeActDone_of_success {s : State} {h : HeadId} {k : Nozzle} {a : Action} {n : Nat} {w : Watchdog} {v : Bool}
    (hl : s.link.get h = .act k a n w) (hv : a.success v = true) :
    s.takeActDone h k v = (s.setCommand h .empty).actionEnded h k true := by
  unfold State.takeActDone
  simp only [hl, if_true, State.judgeAttempt, hv]

theorem State.actionEnded_of_halted {s : State} {h : HeadId} {k : Nozzle} {ok : Bool} {l : Leg} {rest : List Leg}
    (hl : (s.head h).legs = l :: rest) (hc : (s.report h l k ok).control.state = .halted) :
    s.actionEnded h k ok = (s.report h l k ok).setHead h { (s.report h l k ok).head h with legs := rest } := by
  unfold State.actionEnded
  simp only [hl]
  rw [State.holdTest_of_ne _ (by rw [hc]; nofun)]
  exact if_pos (State.isIn_eq_true hc)

/-- The load state of the slots (R54). -/
theorem loadState_eq (slots : Vector (Option Handle) 4) :
    (if allNozzles.any fun n => slots[n].isSome then LoadState.loaded else LoadState.empty) =
      if slots[(0 : Fin 4)].isSome || slots[(1 : Fin 4)].isSome || slots[(2 : Fin 4)].isSome || slots[(3 : Fin 4)].isSome then
        .loaded
      else .empty := by
  simp [allNozzles, or_assoc]

theorem State.setSlot_eq (s : State) (h : HeadId) (k : Nozzle) (u : Option Handle) :
    s.setSlot h k u = s.setHead h { s.head h with
      slots := (s.head h).slots.set k u
      load := if allNozzles.any fun n => ((s.head h).slots.set k u)[n].isSome then LoadState.loaded else LoadState.empty } :=
  rfl

/-- A change of the head's record after a place is the same before it. -/
theorem State.setHead_after_place (s : State) (h : HeadId) (a : HeadRecord) (f : HeadRecord → HeadRecord) (u : Handle)
    (r : Option UnitRecord) (m : Message) (i : Site) (k : Socket) :
    ((((s.setHead h a).setUnit u r).send m).setSocket i k).setHead h
        (f (((((s.setHead h a).setUnit u r).send m).setSocket i k).head h)) =
      (((s.setHead h (f a)).setUnit u r).send m).setSocket i k := by
  have hh : ((((s.setHead h a).setUnit u r).send m).setSocket i k).head h = a := State.head_setHead_self s h a
  rw [hh]
  exact State.setHead_setHead (((s.setUnit u r).send m).setSocket i k) h a (f a)

end Sys2Proof.Machine

open Sys2Proof Sys2Proof.Machine in
/-- Settles O18: the report is the one SocketReports states, and in HALTED the leg alone is dropped after it. -/
theorem haltedReports : Obligations.HaltedReports := by
  intro s h hr hc
  refine ⟨fun x y px py w hl => ?_, ?_⟩
  · have he : exec (.arrived h) s = (s.takeArrived h).finish := rfl
    rw [he, State.takeArrived_of_halted hc hl]
    exact State.finish_rest _ hr
  · intro k n w l i u r hl hlegs hk hp hu hs hn hrec hplace hq hd d slots
    have he : exec (.actDone h k false) s = (s.takeActDone h k false).finish := rfl
    have hrep := State.report_placed (s := s.setCommand h .empty) hp hk hu hs hn hrec ((r.placeableAt_iff i).2 hplace) hq
    rw [State.direct_of_ne _ _ (show ((s.setCommand h .empty).profile i).contact * 1000 ≠ 0 from
      Nat.mul_ne_zero hd (by decide))] at hrep
    have hc' : ((s.setCommand h .empty).report h l k true).control.state = .halted := by rw [hrep]; exact hc
    rw [he, State.takeActDone_of_success hl rfl, State.actionEnded_of_halted (s := s.setCommand h .empty) hlegs hc', hrep,
      State.setSlot_eq, loadState_eq,
      State.setHead_after_place (s.setCommand h .empty) h _ (fun a => { a with legs := [] }) u _ _ i _, State.finish_rest]
    · rfl
    · exact hr
end

section
set_option Elab.async false

namespace Sys2Proof.Machine

/-! ## What a head holds (R57, R63, R67) -/

variable (s : State)

theorem mem_allNozzles (k : Nozzle) : k ∈ allNozzles := by fin_cases k <;> simp [allNozzles]

theorem State.heldUnit_eq_some (h : HeadId) (k : Nozzle) (u : Handle) (r : UnitRecord) :
    s.heldUnit h k = some (u, r) ↔ s.slot h k = some u ∧ s.unit u = some r := by
  simp only [State.heldUnit, Option.bind_eq_some_iff, Option.map_eq_some_iff, Prod.mk.injEq]
  constructor
  · rintro ⟨v, hv, q, hq, rfl, rfl⟩; exact ⟨hv, hq⟩
  · rintro ⟨hv, hq⟩; exact ⟨u, hv, r, hq, rfl, rfl⟩

theorem State.holdsState_iff (h : HeadId) (p : UnitState → Bool) :
    s.holdsState h p = true ↔
      ∃ (k : Nozzle) (u : Handle) (r : UnitRecord), s.slot h k = some u ∧ s.unit u = some r ∧ p r.state = true := by
  simp only [State.holdsState, List.any_eq_true]
  refine ⟨fun ⟨k, _, hk⟩ => ?_, fun ⟨k, u, r, hk, hu, hp⟩ => ⟨k, mem_allNozzles k, ?_⟩⟩
  · split at hk
    · cases hk
    · next u r e =>
      obtain ⟨hs, hu⟩ := (s.heldUnit_eq_some h k u r).1 e
      exact ⟨k, u, r, hs, hu, hk⟩
  · rw [(s.heldUnit_eq_some h k u r).2 ⟨hk, hu⟩]
    exact hp

theorem State.deliverable_isSome_iff (h : HeadId) (k : Nozzle) :
    (s.deliverable h [] k).isSome = true ↔ ∃ (u : Handle) (r : UnitRecord) (d : Destination) (t : Point),
      s.slot h k = some u ∧ s.unit u = some r ∧ r.state = .tested ∧ s.decide r = some d ∧
        s.destinationTarget h k d = some t := by
  unfold State.deliverable
  constructor
  · intro e
    split at e
    · cases e
    · next u r hk =>
      obtain ⟨hs, hu⟩ := (s.heldUnit_eq_some h k u r).1 hk
      split at e
      · next ht =>
        rw [Option.isSome_map, Option.isSome_iff_exists] at e
        obtain ⟨t, e⟩ := e
        obtain ⟨d, hd, ht'⟩ := Option.bind_eq_some_iff.1 e
        exact ⟨u, r, d, t, hs, hu, ht.1, hd, ht'⟩
      · cases e
  · rintro ⟨u, r, d, t, hs, hu, ht, hd, ht'⟩
    rw [(s.heldUnit_eq_some h k u r).2 ⟨hs, hu⟩]
    simp [ht, hd, ht']

theorem State.holdsDeliverable_iff (h : HeadId) :
    s.holdsDeliverable h = true ↔ ∃ (k : Nozzle) (u : Handle) (r : UnitRecord) (d : Destination) (t : Point),
      s.slot h k = some u ∧ s.unit u = some r ∧ r.state = .tested ∧ s.decide r = some d ∧
        s.destinationTarget h k d = some t := by
  simp only [State.holdsDeliverable, List.any_eq_true, State.deliverable_isSome_iff]
  exact ⟨fun ⟨k, _, e⟩ => ⟨k, e⟩, fun ⟨k, e⟩ => ⟨k, mem_allNozzles k, e⟩⟩

theorem State.emptyCount_eq_zero_iff (h : HeadId) : s.emptyCount h = 0 ↔ ∀ k : Nozzle, s.slot h k ≠ none := by
  unfold State.emptyCount
  rw [List.countP_eq_zero]
  exact ⟨fun e k => by simpa using e k (mem_allNozzles k), fun e k _ => by simpa using e k⟩

/-- At least two EMPTY nozzles are two different ones. -/
theorem State.two_le_emptyCount_iff (h : HeadId) :
    2 ≤ s.emptyCount h ↔ ∃ j k : Nozzle, j ≠ k ∧ s.slot h j = none ∧ s.slot h k = none := by
  unfold State.emptyCount
  rw [List.countP_eq_length_filter]
  have mem (k : Nozzle) : k ∈ allNozzles.filter (fun k => (s.slot h k).isNone) ↔ s.slot h k = none := by
    simp [mem_allNozzles]
  have nodup : (allNozzles.filter fun k => (s.slot h k).isNone).Nodup := List.Nodup.filter _ (by decide)
  generalize allNozzles.filter (fun k => (s.slot h k).isNone) = l at mem nodup
  match l, mem, nodup with
  | [], mem, _ => exact ⟨fun h => absurd h (by decide), fun ⟨j, _, _, hj, _⟩ => absurd ((mem j).2 hj) List.not_mem_nil⟩
  | [x], mem, _ =>
    refine ⟨fun h => absurd h (by simp), fun ⟨j, k, hn, hj, hk⟩ => absurd ?_ hn⟩
    rw [List.mem_singleton.1 ((mem j).2 hj), List.mem_singleton.1 ((mem k).2 hk)]
  | x :: y :: rest, mem, nodup =>
    refine ⟨fun _ => ⟨x, y, ?_, (mem x).1 (by simp), (mem y).1 (by simp)⟩, fun _ => by simp⟩
    rintro rfl
    simp at nodup

theorem State.sortsFirst_iff (h : HeadId) :
    s.sortsFirst h = true ↔ s.holdsDeliverable h = true ∧
      ((∀ k : Nozzle, s.slot h k ≠ none) ∨ s.holdsState h (fun st => st == .fresh || st == .retest) = false) := by
  simp only [State.sortsFirst, Bool.and_eq_true, Bool.or_eq_true, beq_iff_eq, Bool.not_eq_true',
    State.emptyCount_eq_zero_iff]

/-! ## The supply marker (R59) -/

theorem State.evaluateSupply_eq : s.evaluateSupply = { s with
    planner := { s.planner with supply := s.supplyNow }
    regs := s.evaluateSupply.regs
    outbox := s.evaluateSupply.outbox } := by
  unfold State.evaluateSupply
  simp only
  split
  · rw [State.setFlag_congr (s := s) (t := { s with planner := { s.planner with supply := s.supplyNow } }) .supply rfl rfl]
  · rfl

theorem State.supplyNow_iff :
    s.supplyNow = true ↔ (∃ e ∈ s.units.retest, e.claim = none) ∨ (s.control.state = .run ∧ s.offered ≠ none) := by
  simp [State.supplyNow, State.isIn, Option.isSome_iff_ne_none]

theorem State.evaluateSupply_regs_of_end (h : s.planner.supply = true ∧ s.supplyNow = false ∧ s.control.state = .run) :
    s.evaluateSupply.regs.attention = s.regs.attention ||| 32#6 := by
  unfold State.evaluateSupply
  simp only [h.1, h.2.1, State.isIn_eq_true h.2.2, Bool.not_false, Bool.and_self, if_true, State.setFlag_attention]
  rfl

theorem State.evaluateSupply_regs_of_other (h : ¬(s.planner.supply = true ∧ s.supplyNow = false ∧ s.control.state = .run)) :
    s.evaluateSupply.regs = s.regs := by
  unfold State.evaluateSupply
  simp only
  rw [if_neg]
  intro c
  simp only [Bool.and_eq_true, Bool.not_eq_true', State.isIn, beq_iff_eq] at c
  exact h ⟨c.1.1, c.1.2, c.2⟩

theorem State.evaluateSupply_holdsDeliverable (h : HeadId) : s.evaluateSupply.holdsDeliverable h = s.holdsDeliverable h := by
  rw [State.evaluateSupply_eq]; rfl

theorem State.evaluateSupply_emptyCount (h : HeadId) : s.evaluateSupply.emptyCount h = s.emptyCount h := by
  rw [State.evaluateSupply_eq]; rfl

/-! ## Job selection for one head (R66 to R71) -/

section
variable {s} {h : HeadId}

theorem State.select_of_not_resting (hr : s.isResting h = false) : s.select h = s := by
  simp [State.select, hr]

theorem State.select_of_holding (hr : s.isResting h = true) (hd : s.control.state = .holding) :
    s.select h = (s.setHeadState h .stopped).holdTest := by
  simp [State.select, hr, State.isIn_eq_true hd]

theorem State.select_of_not_working (hd : s.control.state ≠ .holding) (hw : s.working = false) : s.select h = s := by
  simp [State.select, State.isIn_eq_false hd, hw]

theorem State.working_not_holding (hw : s.working = true) : s.isIn .holding = false := by
  rcases State.working_iff.1 hw with h | h <;> exact State.isIn_eq_false (by rw [h]; nofun)

theorem State.select_of_queue (hr : s.isResting h = true) (hw : s.working = true) (hq : s.board.queue ≠ []) :
    s.select h = (s.settledHead h).drainTest := by
  simp [State.select, hr, State.working_not_holding hw, hw, hq, State.settle]

/-- Selection in RUN and DRAINING with no notice waiting: the cases of R67. -/
theorem State.select_of_working (hr : s.isResting h = true) (hw : s.working = true) (hq : s.board.queue = []) :
    s.select h = if s.sortsFirst h = true then s.bindSort h
      else match s.bestOffer h with
        | some o => s.bindOffer h o
        | none => s.selectSupply h := by
  simp [State.select, hr, State.working_not_holding hw, hw, hq] <;> rfl

theorem State.selectSupply_of_feed {t : State} {l : Leg} (h2 : 2 ≤ s.emptyCount h) (hf : s.evaluateSupply.feedLeg h = some (t, l)) :
    s.selectSupply h = (t.bindJob h (plainJob .feed []) [l]).submit h .bound := by
  unfold State.selectSupply
  simp only [State.evaluateSupply_emptyCount, h2, if_true, hf]

theorem State.selectSupply_of_none (hf : ¬2 ≤ s.emptyCount h ∨ s.evaluateSupply.feedLeg h = none) :
    s.selectSupply h =
      if s.holdsDeliverable h = true then s.evaluateSupply.bindSort h
      else ((s.evaluateSupply.restHead h).settledHead h).drainTest := by
  have hn : (if 2 ≤ s.emptyCount h then s.evaluateSupply.feedLeg h else none) = none := by
    rcases hf with hf | hf
    · rw [if_neg hf]
    · rw [hf, ite_self]
  unfold State.selectSupply
  simp only [State.evaluateSupply_emptyCount, hn, State.evaluateSupply_holdsDeliverable]
  rfl

end

/-- A leg at a socket. -/
def socketLeg (i : Site) (kind : LegKind) (k : Nozzle) (t : Point) (u : Option Handle) : Leg :=
  { kind := kind, nozzle := some k, location := .socket i, x := t.x, y := t.y, unit := u, frame := none }

theorem Plan.legs_eq (p : Plan) (i : Site) :
    p.legs i = (p.pick.map fun q => socketLeg i .pick q.1 q.2 none).toList ++
      (p.place.map fun c => socketLeg i .place c.nozzle c.target (some c.unit)).toList := by
  unfold Plan.legs
  rcases p.pick with _ | ⟨k, t⟩ <;> rcases p.place with _ | c <;> rfl

end Sys2Proof.Machine

open Sys2Proof Sys2Proof.Machine in
/-- Settles O46: the cases of `select` in the order of R67, each read on the head's nozzles and units. -/
theorem jobSelection : Obligations.JobSelection := by
  intro s h resting working holds deliverable sortsFirst twoEmpty bound job supply fed
  have hres : s.isResting h = true ↔ resting := State.isResting_iff
  have hwork : s.working = true ↔ working := State.working_iff
  have hdel : s.holdsDeliverable h = true ↔ deliverable := s.holdsDeliverable_iff h
  have hsort : s.sortsFirst h = true ↔ sortsFirst := by
    rw [State.sortsFirst_iff, hdel, ← Bool.not_eq_true, State.holdsState_iff]
    simp only [Bool.or_eq_true, beq_iff_eq]
    rfl
  have htested : s.holdsState h (fun st => st == .tested) = true ↔ holds fun st => st = .tested := by
    rw [State.holdsState_iff]
    simp only [beq_iff_eq]
    rfl
  have htwo : 2 ≤ s.emptyCount h ↔ twoEmpty := s.two_le_emptyCount_iff h
  have hsup : s.supplyNow = true ↔ supply := s.supplyNow_iff
  have fed_supply : fed.planner.supply = s.supplyNow := by simp only [fed]; rw [State.evaluateSupply_eq]
  refine ⟨fun hr => ?_, fun hr hd => ?_, fun hr hd hw => ?_, fun hr hw hq => ?_, fun hr hw hq => ⟨fun hs => ?_,
    fun hs o ho => ?_, fun hs ho => ⟨fun t l h2 hf => ?_, fun hf => ⟨fun hd => ?_, fun hd => ?_⟩⟩⟩, ⟨?_, ?_, ?_, ?_⟩,
    ⟨fun ht => ?_, fun ht hst => ?_, fun ht hst hb => ?_, fun ht hst hb => ?_⟩, fun o => ?_⟩
  · exact State.select_of_not_resting (by rwa [← Bool.not_eq_true, hres])
  · exact State.select_of_holding (hres.2 hr) hd
  · exact State.select_of_not_working hd (by rwa [← Bool.not_eq_true, hwork])
  · exact State.select_of_queue (hres.2 hr) (hwork.2 hw) hq
  · rw [State.select_of_working (hres.2 hr) (hwork.2 hw) hq, if_pos (hsort.2 hs)]
  · rw [State.select_of_working (hres.2 hr) (hwork.2 hw) hq, if_neg (hs ∘ hsort.1), ho]
  · rw [State.select_of_working (hres.2 hr) (hwork.2 hw) hq, if_neg (hs ∘ hsort.1), ho]
    exact State.selectSupply_of_feed (htwo.2 h2) hf
  · rw [State.select_of_working (hres.2 hr) (hwork.2 hw) hq, if_neg (hs ∘ hsort.1), ho]
    exact (State.selectSupply_of_none (hf.imp_left fun c => c ∘ htwo.1)).trans (if_pos (hdel.2 hd))
  · rw [State.select_of_working (hres.2 hr) (hwork.2 hw) hq, if_neg (hs ∘ hsort.1), ho]
    exact (State.selectSupply_of_none (hf.imp_left fun c => c ∘ htwo.1)).trans (if_neg (hd ∘ hdel.1))
  · rw [fed_supply]; simp only [fed]; rw [State.evaluateSupply_eq]
  · rw [fed_supply]; exact hsup
  · rintro ⟨h1, h2, h3⟩
    exact s.evaluateSupply_regs_of_end ⟨h1, by rwa [← Bool.not_eq_true, hsup], h3⟩
  · intro hn
    refine s.evaluateSupply_regs_of_other fun ⟨h1, h2, h3⟩ => hn ⟨h1, ?_, h3⟩
    rwa [← hsup, Bool.not_eq_true]
  · simp [State.restHead, show s.holdsState h (fun st => st == .tested) = false by rwa [← Bool.not_eq_true, htested]]
  · simp [State.restHead, htested.2 ht, hst]
  · simp [State.restHead, htested.2 ht, hst, hb]
  · simp [State.restHead, htested.2 ht, hst, hb]
  · rw [State.bindOffer, Plan.legs_eq]; rfl
end

section
set_option Elab.async false

namespace Sys2Proof.Machine

/-! ## What a withdrawal leaves (R20, R72, R74) -/

section
variable (s : State)

theorem State.unbindReturn_eq (i : Site) (raised : Nat) : ∃ (q : Option Request) (a : List Task),
    s.unbindReturn i raised =
      { (s.setSocket i { s.socket i with bound := none }).setRequest i q with agenda := a } ∧
    q = ((s.wanted i).map fun k => { kind := k, raised := raised }).or (s.request i) := by
  have hw : (s.setSocket i { s.socket i with bound := none }).wanted i = s.wanted i := by
    simp only [State.wanted, State.socket_setSocket_self]; rfl
  cases hk : s.wanted i with
  | none =>
    refine ⟨_, s.agenda, ?_, rfl⟩
    unfold State.unbindReturn
    simp only [hw, hk, Option.map_none, Option.none_or]
    exact (State.setRequest_of_eq (s := s.setSocket i { s.socket i with bound := none }) rfl).symm
  | some k =>
    refine ⟨_, (s.setSocket i { s.socket i with bound := none }).agenda ++ [.entered i], ?_, rfl⟩
    unfold State.unbindReturn
    simp only [hw, hk, Option.map_some, Option.some_or]
    rfl

theorem State.unbindReturn_bound (i : Site) (raised : Nat) : ((s.unbindReturn i raised).socket i).bound = none := by
  obtain ⟨q, a, e, _⟩ := s.unbindReturn_eq i raised
  rw [e]
  exact congrArg Socket.bound (State.socket_setSocket_self s i _)

theorem State.unbindReturn_request (i : Site) (raised : Nat) :
    (s.unbindReturn i raised).request i = ((s.wanted i).map fun k => { kind := k, raised := raised }).or (s.request i) := by
  obtain ⟨q, a, e, hq⟩ := s.unbindReturn_eq i raised
  rw [e, ← hq]
  exact State.request_setRequest_self (s.setSocket i _) i q

theorem State.returnRequest_units (h : HeadId) (j : Job) : (s.returnRequest h j).units = s.units := by
  unfold State.returnRequest
  split
  · rfl
  · split
    · obtain ⟨q, a, e, _⟩ := s.unbindReturn_eq _ j.raised
      rw [e]; rfl
    · rfl

theorem State.withdraw_records (h : HeadId) (d : List Leg) : (s.withdraw h d).units.records = s.units.records := by
  cases hj : (s.head h).job with
  | none => rw [State.withdraw_of_no_job s d hj]; exact (s.released_releases h d).records
  | some j => rw [State.withdraw_of_job s d hj, State.returnRequest_units]; exact (s.released_releases h d).records

theorem State.withdraw_freed (h : HeadId) (d : List Leg) : ∀ l ∈ d, LegFreed h l (s.withdraw h d) := by
  have hr : ∀ l ∈ d, LegFreed h l (s.released h d) := fun l hl =>
    (State.releaseLegs_freed s h d l hl).mono Frees.of_same
  cases hj : (s.head h).job with
  | none => rw [State.withdraw_of_no_job s d hj]; exact hr
  | some j =>
    rw [State.withdraw_of_job s d hj]
    exact fun l hl => (hr l hl).mono (State.returnRequest_frees _ h j)

theorem State.withdraw_request {h : HeadId} (d : List Leg) {j : Job} {i : Site} (hj : (s.head h).job = some j)
    (hi : j.site = some i) (hb : (s.socket i).bound = some h) :
    ((s.withdraw h d).socket i).bound = none ∧
      (s.withdraw h d).request i = ((s.wanted i).map fun k => { kind := k, raised := j.raised }).or (s.request i) := by
  have hr := s.released_releases h d
  rw [State.withdraw_of_bound s d hj hi hb]
  exact ⟨State.unbindReturn_bound _ i _, by rw [State.unbindReturn_request, hr.wanted, hr.request]⟩

theorem LegFreed.withdrawn {h : HeadId} {t : State} (f : ∀ l ∈ (s.head h).legs, LegFreed h l t)
    (hu : (t.head h).slots = (s.head h).slots) (hw : t.rail.waiting.get h = none)
    (hr : ∀ (j : Job) (i : Site), (s.head h).job = some j → j.site = some i → (s.socket i).bound = some h →
      (t.socket i).bound = none ∧
        t.request i = ((s.wanted i).map fun k => { kind := k, raised := j.raised }).or (s.request i)) : Withdrawn h s t :=
  ⟨hu, hw, fun l hl hk p hp => (f l hl).claim hk p hp, fun l hl hk p hp => (f l hl).strip hk p hp,
    fun l hl g i hg hp => (f l hl).pocket g i hg hp, hr⟩

theorem State.withdraw_withdrawn (h : HeadId) : Withdrawn h s (s.withdraw h (s.head h).legs) :=
  LegFreed.withdrawn s (s.withdraw_freed h _) (by rw [State.withdraw_head]) (State.withdraw_waiting _)
    fun _ _ hj hi hb => s.withdraw_request _ hj hi hb

end

/-! ## A request entering: the heads' order and preemption (R70, R72, R73) -/

section
variable (s : State)

theorem State.mayBind_iff : s.mayBind = true ↔
    (s.control.state = .run ∨ s.control.state = .draining) ∧ s.board.queue = [] := by
  simp [State.mayBind, State.working_iff]

theorem State.wouldTake_iff (h : HeadId) (i : Site) (o : Offer) :
    s.wouldTake h i = some o ↔ ((s.head h).state = .idle ∨ (s.head h).state = .binWait) ∧
      s.sortsFirst h = false ∧ s.bestOffer h = some o ∧ o.site = i := by
  rw [← State.isResting_iff]
  unfold State.wouldTake
  cases hr : s.isResting h <;> cases hs : s.sortsFirst h <;> simp
  cases hb : s.bestOffer h with
  | none => simp
  | some p =>
    simp only [Option.ite_none_right_eq_some, Option.some.injEq]
    constructor
    · rintro ⟨hi, rfl⟩; exact ⟨rfl, hi⟩
    · rintro ⟨rfl, hi⟩; exact ⟨hi, rfl⟩

theorem State.preemptOffer_iff (h : HeadId) (i : Site) (o : Offer) :
    s.preemptOffer h i = some o ↔ ∃ j : Job, (s.head h).state = .bound ∧ (s.head h).job = some j ∧
      (j.kind = .load ∨ j.kind = .swap ∨ j.kind = .unload) ∧ s.offerFor h i = some o ∧ j.level < o.plan.level := by
  unfold State.preemptOffer
  constructor
  · intro e
    split at e
    · next j p hb hj ho =>
      have better (hk : j.kind = .load ∨ j.kind = .swap ∨ j.kind = .unload)
          (e : (if j.level < p.plan.level then some p else none) = some o) :
          ∃ j : Job, (s.head h).state = .bound ∧ (s.head h).job = some j ∧
            (j.kind = .load ∨ j.kind = .swap ∨ j.kind = .unload) ∧ s.offerFor h i = some o ∧ j.level < o.plan.level := by
        obtain ⟨hl, rfl⟩ : j.level < p.plan.level ∧ p = o := by simpa using e
        exact ⟨j, hb, hj, hk, ho, hl⟩
      split at e
      · next hk => exact better (.inl hk) e
      · next hk => exact better (.inr (.inl hk)) e
      · next hk => exact better (.inr (.inr hk)) e
      all_goals cases e
    · cases e
  · rintro ⟨j, hb, hj, hk, ho, hl⟩
    simp only [hb, hj, ho]
    rcases hk with hk | hk | hk <;> simp only [hk, if_pos hl]

theorem State.quicker_eq (oa ob : Offer) (h : HeadId) :
    s.quicker oa.plan ob.plan = h ↔
      (if s.headLegTime .b ob.plan.firstTarget < s.headLegTime .a oa.plan.firstTarget then h = .b else h = .a) := by
  unfold State.quicker
  split <;> exact eq_comm

theorem State.selectResting_both (ha : s.isResting .a = true) (hb : s.isResting .b = true) :
    ∃ h : HeadId, s.selectResting = ({ s with choices := s.choices + 1 }.select h).select h.other := by
  refine ⟨Config.eitherHead s.choices, ?_⟩
  simp only [State.selectResting, ha, hb, State.firstHead]

theorem State.selectResting_one {h : HeadId} (hr : s.isResting h = true) (ho : s.isResting h.other = false) :
    s.selectResting = s.select h := by
  unfold State.selectResting
  cases h
  · rw [hr, show s.isResting .b = false from ho]
  · rw [hr, show s.isResting .a = false from ho]

theorem State.selectResting_none (h : ∀ h : HeadId, s.isResting h = false) : s.selectResting = s := by
  unfold State.selectResting
  rw [h .a, h .b]

theorem State.selectEntered_both {i : Site} {oa ob : Offer} (hm : s.mayBind = true) (ha : s.wouldTake .a i = some oa)
    (hb : s.wouldTake .b i = some ob) :
    s.selectEntered i =
      (s.select (s.quicker oa.plan ob.plan)).select (s.quicker oa.plan ob.plan).other := by
  simp only [State.selectEntered, hm, ha, hb]

theorem State.selectEntered_other {i : Site} (h : s.mayBind = false ∨ ∃ h : HeadId, s.wouldTake h i = none) :
    s.selectEntered i = s.selectResting := by
  unfold State.selectEntered
  split
  · next hm ha hb =>
    rcases h with h | ⟨g, h⟩
    · rw [h] at hm; cases hm
    · cases g
      · rw [h] at ha; cases ha
      · rw [h] at hb; cases hb
  · rfl

theorem State.considerPreemption_barred {i : Site} (h : s.deck.preemption = false ∨ s.mayBind = false) :
    s.considerPreemption i = s := by
  unfold State.considerPreemption
  rw [if_neg]
  rcases h with h | h <;> simp [h]

theorem State.considerPreemption_none {i : Site} (h : ∀ h : HeadId, s.preemptOffer h i = none) :
    s.considerPreemption i = s := by
  unfold State.considerPreemption
  rw [h .a, h .b]
  exact ite_self s

theorem State.considerPreemption_one {i : Site} {h : HeadId} {o : Offer} (hp : s.deck.preemption = true)
    (hm : s.mayBind = true) (ho : s.preemptOffer h i = some o) (hn : s.preemptOffer h.other i = none) :
    s.considerPreemption i = s.preempt h o := by
  unfold State.considerPreemption
  rw [hp, hm]
  cases h
  · rw [ho, show s.preemptOffer .b i = none from hn]; rfl
  · rw [ho, show s.preemptOffer .a i = none from hn]; rfl

theorem State.considerPreemption_both {i : Site} {oa ob : Offer} (hp : s.deck.preemption = true) (hm : s.mayBind = true)
    (ha : s.preemptOffer .a i = some oa) (hb : s.preemptOffer .b i = some ob) :
    (s.preemptChoice oa ob = .a → s.considerPreemption i = s.preempt .a oa) ∧
      (s.preemptChoice oa ob = .b → s.considerPreemption i = s.preempt .b ob) := by
  constructor
  all_goals
    intro hc
    unfold State.considerPreemption
    simp only [hp, hm, ha, hb, hc, Bool.and_self, if_true]

end

end Sys2Proof.Machine

open Sys2Proof Sys2Proof.Machine in
/-- Settles O48: the selections by who would take the request, the preemption by who is better served, and the withdrawal that
stands between the old legs and the new offer. -/
theorem preemption : Obligations.Preemption := by
  intro s i mayBind resting quicker would better level
  have hmay : s.mayBind = true ↔ mayBind := s.mayBind_iff
  have hmay' (h : ¬mayBind) : s.mayBind = false := by rwa [← Bool.not_eq_true, hmay]
  have hres (h : HeadId) : s.isResting h = true ↔ resting h := State.isResting_iff
  have hres' (h : HeadId) (k : ¬resting h) : s.isResting h = false := by rwa [← Bool.not_eq_true, hres]
  have hwould (h : HeadId) (o : Offer) : s.wouldTake h i = some o ↔ would h o := s.wouldTake_iff h i o
  have hbetter (h : HeadId) (o : Offer) : s.preemptOffer h i = some o ↔ better h o := s.preemptOffer_iff h i o
  have hbetter' (h : HeadId) (k : ∀ o, ¬better h o) : s.preemptOffer h i = none :=
    Option.eq_none_iff_forall_ne_some.2 fun o e => k o ((hbetter h o).1 e)
  refine ⟨fun hq => ?_, fun hq => ?_, fun oa ob h hm ha hb hqk => ?_, fun hn => ?_, fun ha => ?_, fun h hr ho => ?_,
    fun hn => ?_, fun p k t hp => ?_, fun p c hp hc => ?_, fun hn => ?_, fun hp hm => ⟨fun h o hb ho => ?_, fun oa ob ha hb => ?_⟩,
    fun h o => ?_⟩
  · simp only [State.requestEntered, hq]
  · obtain ⟨q, hq⟩ := Option.ne_none_iff_exists'.1 hq
    simp only [State.requestEntered, hq]
  · rw [State.selectEntered_both s (hmay.2 hm) ((hwould .a oa).2 ha) ((hwould .b ob).2 hb), (s.quicker_eq oa ob h).2 hqk]
  · refine s.selectEntered_other (hn.imp hmay' fun ⟨h, k⟩ => ⟨h, ?_⟩)
    exact Option.eq_none_iff_forall_ne_some.2 fun o e => k o ((hwould h o).1 e)
  · exact s.selectResting_both ((hres .a).2 (ha .a)) ((hres .b).2 (ha .b))
  · exact s.selectResting_one ((hres h).2 hr) (hres' _ ho)
  · exact s.selectResting_none fun h => hres' h (hn h)
  · simp only [Plan.firstTarget, hp]
  · simp only [Plan.firstTarget, hp, hc]
  · rcases hn with hn | hn | hn
    · exact s.considerPreemption_barred (.inl hn)
    · exact s.considerPreemption_barred (.inr (hmay' hn))
    · exact s.considerPreemption_none fun h => hbetter' h (hn h)
  · exact s.considerPreemption_one hp (hmay.2 hm) ((hbetter h o).2 hb) (hbetter' _ ho)
  · have he := s.considerPreemption_both hp (hmay.2 hm) ((hbetter .a oa).2 ha) ((hbetter .b ob).2 hb)
    have hlevel (h : HeadId) : s.jobLevel h = level h := rfl
    refine ⟨fun hl => he.1 ?_, fun hl => he.2 ?_, fun hl => ⟨fun hq => he.1 ?_, fun hq => he.2 ?_⟩⟩
    · rw [State.preemptChoice, hlevel, hlevel, if_pos hl]
    · rw [State.preemptChoice, hlevel, hlevel, if_neg (by omega), if_pos hl]
    · rw [State.preemptChoice, hlevel, hlevel, if_neg (by omega), if_neg (by omega)]
      exact (s.quicker_eq oa ob .a).2 hq
    · rw [State.preemptChoice, hlevel, hlevel, if_neg (by omega), if_neg (by omega)]
      exact (s.quicker_eq oa ob .b).2 hq
  · exact ⟨s.withdraw h (s.head h).legs, s.withdraw_withdrawn h, State.withdraw_head s h _ h, s.withdraw_records h _,
      State.preempt_eq s h o⟩
end

section
set_option Elab.async false

namespace Sys2Proof.Machine

/-! ## The edits of a socket's record (R22 to R25) -/

/-- Lockout, for the record alone (R23). -/
def Socket.lockedOut (k : Socket) (lockout : Bool) : Socket :=
  if lockout && !k.latch then
    match k.state with
    | .disabled | .retired | .empty | .locked => { k with latch := true, state := .locked, stop := .none }
    | .recovering | .seated | .testing | .releasing | .unloadReady | .jammed => { k with latch := true, stop := .lock }
  else k

/-- REINSTATE, for the record alone (R25). -/
def Socket.reinstated (k : Socket) (flag : Bool) : Socket :=
  if flag && k.state == .retired && !k.latch then { k with bad := 0, state := .empty } else k

/-- Enable, for the record alone (R24). -/
def Socket.enabled (k : Socket) (enable : Bool) : Socket :=
  if k.latch then k
  else
    match k.state, enable with
    | .disabled, true => { k with state := .empty }
    | .empty, false => { k with state := .disabled }
    | .disabled, false | .empty, true | .retired, _ | .locked, _ => k
    | _, false => if k.stop = .none then { k with stop := .disable } else k
    | _, true => if k.stop = .disable then { k with stop := .none } else k

section
variable (s : State)

theorem State.editLockout_eq (i : Site) :
    s.editLockout i = s.setSocket i ((s.socket i).lockedOut (s.siteCfg i).lockout) := by
  unfold State.editLockout Socket.lockedOut
  simp only
  split
  · cases (s.socket i).state <;> rfl
  · exact (State.setSocket_self s i).symm

theorem State.editReinstate_eq (i : Site) (flag : Bool) :
    s.editReinstate i flag = s.setSocket i ((s.socket i).reinstated flag) := by
  unfold State.editReinstate Socket.reinstated
  simp only
  split
  · rfl
  · exact (State.setSocket_self s i).symm

theorem State.editEnable_eq (i : Site) : s.editEnable i = s.setSocket i ((s.socket i).enabled (s.siteCfg i).enable) := by
  unfold State.editEnable Socket.enabled
  simp only
  split
  · exact (State.setSocket_self s i).symm
  · cases (s.socket i).state <;> cases (s.siteCfg i).enable <;> simp [apply_ite (s.setSocket i)]

theorem State.updateRequests_sites (i : Site) : (s.updateRequests i).sites = s.sites := by
  by_cases hb : (s.socket i).bound = none
  · rw [State.updateRequests_eq hb]; rfl
  · rw [State.updateRequests_of_bound hb]

theorem State.editJamClear_of_other (i : Site) (flag : Bool) (h : ¬((s.socket i).state = .jammed ∧ flag = true)) :
    s.editJamClear i flag = s := by
  unfold State.editJamClear
  rw [if_neg]
  simpa [and_comm] using h

/-- The record after the edits of a site that clears no jam. -/
def Socket.edited (k : Socket) (c : SiteConfig) (reinstate : Bool) : Socket :=
  ((k.lockedOut c.lockout).reinstated reinstate).enabled c.enable

theorem Socket.edits_jammed_iff (k : Socket) (lockout flag : Bool) :
    ((k.lockedOut lockout).reinstated flag).state = .jammed ↔ k.state = .jammed := by
  have hl : (k.lockedOut lockout).state = .jammed ↔ k.state = .jammed := by
    unfold Socket.lockedOut
    split
    · cases k.state <;> simp
    · exact Iff.rfl
  unfold Socket.reinstated
  split
  · next h =>
    have hr : (k.lockedOut lockout).state = .retired := by simp at h; exact h.1.2
    rw [← hl, hr]
    exact ⟨nofun, nofun⟩
  · exact hl

/-- Lockout and REINSTATE, the two edits before JAM_CLEAR (R22). -/
theorem State.firstEdits_eq (i : Site) (flag : Bool) :
    (s.editLockout i).editReinstate i flag =
      s.setSocket i (((s.socket i).lockedOut (s.siteCfg i).lockout).reinstated flag) := by
  rw [State.editReinstate_eq, State.editLockout_eq, State.socket_setSocket_self, State.setSocket_setSocket]

/-- The socket's record after the edits of a site that clear no jam (R22 to R25). -/
theorem State.editSite_socket (i : Site) (reinstate jamClear : Bool)
    (h : ¬((s.socket i).state = .jammed ∧ jamClear = true)) :
    (s.editSite i reinstate jamClear).socket i = (s.socket i).edited (s.siteCfg i) reinstate := by
  unfold State.editSite
  rw [State.socket, State.updateRequests_sites, State.firstEdits_eq, State.editJamClear_of_other _ _ _ (by
    rw [State.socket_setSocket_self, Socket.edits_jammed_iff]; exact h), State.editEnable_eq]
  exact (State.socket_setSocket_self _ i _).trans (by rw [State.socket_setSocket_self]; rfl)

/-! ## A unit lost (R48) -/

theorem State.drainTest_eq : s.drainTest = { s with
    control := s.drainTest.control, regs := s.drainTest.regs, outbox := s.drainTest.outbox } := by
  unfold State.drainTest
  split
  · rw [State.setFlag_congr (s := s) (t := s.setDevice .drained) .state rfl rfl]; rfl
  · rfl

theorem State.drainTest_boardKept : BoardKept s s.drainTest := by
  unfold State.drainTest
  split
  · exact BoardKept.trans BoardKept.of_same (BoardKept.setFlag _ .state)
  · exact BoardKept.refl s

/-- The notice of a loss (R48). -/
def lossNotice (r : UnitRecord) (cause : LossCause) : Notice :=
  match r.place with
  | .nozzle h k => { kind := .unitLost, cause := some cause, serial := some r.serial, head := some h, nozzle := some k }
  | .site i => { kind := .unitLost, cause := some cause, serial := some r.serial, site := some i }
  | .strip p =>
    { kind := .unitLost, cause := some cause, serial := some r.serial, station := some .strip, pocket := some p.val }

theorem State.declareLost_of_none {u : Handle} (cause : LossCause) (h : s.unit u = none) : s.declareLost u cause = s := by
  unfold State.declareLost
  simp only [h]

theorem State.declareLost_of_some {u : Handle} {r : UnitRecord} (cause : LossCause) (h : s.unit u = some r) :
    s.declareLost u cause = ((s.raise (lossNotice r cause)).vacate r.place).freeUnit u := by
  unfold State.declareLost lossNotice
  simp only [h] <;> cases r.place <;> rfl

/-- A lost unit's place left: of a socket at most its unit changes, of the board nothing. -/
structure Vacated (s t : State) : Prop where
  shadow : t.shadow = s.shadow
  time : t.time = s.time
  trailing : t.trailing = s.trailing
  socket : ∀ i : Site, t.socket i = { s.socket i with unit := (t.socket i).unit }
  board : BoardKept s t

theorem Vacated.refl : Vacated s s := ⟨rfl, rfl, rfl, fun _ => rfl, BoardKept.refl s⟩

theorem Vacated.trans {s t u : State} (h : Vacated s t) (k : Vacated t u) : Vacated s u :=
  ⟨k.shadow.trans h.shadow, k.time.trans h.time, k.trailing.trans h.trailing, fun i => by
    have := k.socket i
    rw [h.socket i] at this
    exact this, h.board.trans k.board⟩

theorem State.vacate_vacated (p : Place) : Vacated s (s.vacate p) := by
  cases p with
  | nozzle h k => exact ⟨rfl, rfl, rfl, fun _ => rfl, BoardKept.of_same⟩
  | site j =>
    refine ⟨rfl, rfl, rfl, fun i => ?_, BoardKept.of_same⟩
    rw [State.vacate, State.socket_setSocket]
    split
    · next e => rw [e]
    · rfl
  | strip p => exact ⟨rfl, rfl, rfl, fun _ => rfl, BoardKept.of_same⟩

theorem State.freeUnit_vacated (u : Handle) : Vacated s (s.freeUnit u) := by
  have h : Vacated s (s.setUnit u none) := ⟨rfl, rfl, rfl, fun _ => rfl, BoardKept.of_same⟩
  refine h.trans ?_
  unfold State.freeUnit
  have hb := (s.setUnit u none).drainTest_boardKept
  rw [State.drainTest_eq] at hb ⊢
  exact ⟨rfl, rfl, rfl, fun _ => rfl, hb⟩

theorem State.freeUnit_unit (u : Handle) : (s.freeUnit u).unit u = none := by
  unfold State.freeUnit
  rw [State.drainTest_eq]
  exact (State.unit_setUnit s u u none).trans (if_pos rfl)

theorem State.raise_vacated (n : Notice) : Vacated s (s.raise n) :=
  ⟨by simp, by simp, by simp, fun _ => by simp, BoardKept.raise s n⟩

theorem State.declareLost_vacated (u : Handle) (cause : LossCause) : Vacated s (s.declareLost u cause) := by
  cases h : s.unit u with
  | none => rw [State.declareLost_of_none s cause h]; exact Vacated.refl s
  | some r =>
    rw [State.declareLost_of_some s cause h]
    exact (s.raise_vacated _).trans ((State.vacate_vacated _ _).trans (State.freeUnit_vacated _ u))

theorem State.declareLost_unit (u : Handle) (cause : LossCause) : (s.declareLost u cause).unit u = none := by
  cases h : s.unit u with
  | none => rw [State.declareLost_of_none s cause h]; exact h
  | some r => rw [State.declareLost_of_some s cause h]; exact State.freeUnit_unit _ u

theorem State.declareLost_noticed {u : Handle} {r : UnitRecord} (cause : LossCause) (h : s.unit u = some r) :
    noticed s (s.declareLost u cause) (lossNotice r cause) := by
  rw [State.declareLost_of_some s cause h]
  exact (noticed_raise _ rfl rfl rfl).kept ((State.vacate_vacated _ _).trans (State.freeUnit_vacated _ u)).board

/-! ## JAM_CLEAR (R26) -/

/-- The unit in a jammed socket declared LOST (R26, R48). -/
def State.unitLost (s : State) (i : Site) : State :=
  match (s.socket i).unit with
  | none => s
  | some u => s.declareLost u .manualClear

theorem State.unitLost_vacated (i : Site) : Vacated s (s.unitLost i) := by
  unfold State.unitLost
  split
  · exact Vacated.refl s
  · exact s.declareLost_vacated _ _

/-- A jam cleared: the unit lost, and the recovery started (R26). -/
theorem State.editJamClear_eq (i : Site) (h : (s.socket i).state = .jammed) :
    s.editJamClear i true = ((s.unitLost i).setSocket i { s.socket i with
        state := .recovering
        unit := none
        timer := .running .recovery (s.time + (s.profile i).recovery * 1000) ((s.profile i).recovery * 1000) }).direct i
      ((s.profile i).recovery * 1000) := by
  have hv := s.unitLost_vacated i
  have hp : (s.unitLost i).profile i = s.profile i := State.profile_congr hv.shadow i
  have hk : { (s.unitLost i).socket i with unit := none } = { s.socket i with unit := none } := by rw [hv.socket i]
  have he : s.editJamClear i true =
      ((s.unitLost i).setSocket i { (s.unitLost i).socket i with unit := none }).enterTimed i .recovering .recovery := by
    unfold State.editJamClear State.unitLost
    rw [h]
    rfl
  rw [he, State.enterTimed_cycle _ i .recovering (k := .recovery) nofun, State.socket_setSocket_self,
    State.setSocket_setSocket, hk]
  have hd : timerDuration (((s.unitLost i).setSocket i { s.socket i with unit := none }).profile i) .recovery =
      (s.profile i).recovery * 1000 := by rw [← hp]; rfl
  rw [hd, State.setSocket_time, hv.time]

/-- What the last two of the edits leave alone (R19, R24). -/
theorem State.lastEdits_eq (i : Site) : ((s.editEnable i).updateRequests i) =
    { s.setSocket i ((s.socket i).enabled (s.siteCfg i).enable) with
      planner := ((s.editEnable i).updateRequests i).planner
      agenda := ((s.editEnable i).updateRequests i).agenda } := by
  rw [State.editEnable_eq]
  generalize hb : s.setSocket i ((s.socket i).enabled (s.siteCfg i).enable) = b
  by_cases h : (b.socket i).bound = none
  · rw [State.updateRequests_eq h]; rfl
  · rw [State.updateRequests_of_bound h]

end

/-- A jammed socket's record after the edits, with its jam cleared (R22 to R26). -/
def Socket.cleared (k : Socket) (c : SiteConfig) (now d : Nat) : Socket :=
  Socket.enabled
    { k.lockedOut c.lockout with state := .recovering, unit := none, timer := .running .recovery (now + d) d } c.enable

theorem Socket.lockedOut_jammed {k : Socket} (lockout : Bool) (h : k.state = .jammed) :
    k.lockedOut lockout = { k with
      latch := k.latch || lockout
      stop := if k.latch = false ∧ lockout = true then .lock else k.stop } := by
  unfold Socket.lockedOut
  obtain ⟨st, _, _, _, _, _, latch, _, _⟩ := k
  obtain rfl : st = .jammed := h
  cases latch <;> cases lockout <;> rfl

theorem Socket.reinstated_jammed {k : Socket} (flag : Bool) (h : k.state = .jammed) : k.reinstated flag = k := by
  simp [Socket.reinstated, h]

/-- The state before the last edits, of a site whose jam is cleared. -/
theorem State.editSite_jammed {s : State} {i : Site} (reinstate : Bool) (h : (s.socket i).state = .jammed) :
    ∃ a t : State, a = s.setSocket i ((s.socket i).lockedOut (s.siteCfg i).lockout) ∧
      t = ((a.unitLost i).setSocket i { a.socket i with
        state := .recovering
        unit := none
        timer := .running .recovery (s.time + (s.profile i).recovery * 1000) ((s.profile i).recovery * 1000) }).direct i
          ((s.profile i).recovery * 1000) ∧
      s.editSite i reinstate true = (t.editEnable i).updateRequests i := by
  refine ⟨_, _, rfl, rfl, ?_⟩
  have hj : ((s.socket i).lockedOut (s.siteCfg i).lockout).state = .jammed := by
    rw [Socket.lockedOut_jammed _ h]; exact h
  unfold State.editSite
  rw [State.firstEdits_eq, Socket.reinstated_jammed _ hj, State.editJamClear_eq _ i (by rw [State.socket_setSocket_self]; exact hj)]
  rfl

end Sys2Proof.Machine
end

section
set_option Elab.async false

namespace Sys2Proof.Machine

/-! ## The table of the site edits (R22 to R26) -/

/-- A socket in a service cycle, or jammed. -/
def Socket.underway (k : Socket) : Prop :=
  k.state = .recovering ∨ k.state = .seated ∨ k.state = .testing ∨ k.state = .releasing ∨ k.state = .unloadReady ∨
    k.state = .jammed

section
variable {k : Socket} {c : SiteConfig} (reinstate : Bool)

theorem Socket.edited_of_latched (h : k.latch = true) : k.edited c reinstate = k := by
  simp [Socket.edited, Socket.lockedOut, Socket.reinstated, Socket.enabled, h]

theorem Socket.edited_of_lockout_idle (hc : c.lockout = true) (hl : k.latch = false)
    (hs : k.state = .disabled ∨ k.state = .retired ∨ k.state = .empty) :
    k.edited c reinstate = { k with latch := true, state := .locked, stop := .none } := by
  rcases hs with hs | hs | hs <;>
    simp [Socket.edited, Socket.lockedOut, Socket.reinstated, Socket.enabled, hc, hl, hs]

theorem Socket.edited_of_lockout_underway (hc : c.lockout = true) (hl : k.latch = false) (hs : k.underway) :
    k.edited c reinstate = { k with latch := true, stop := .lock } := by
  rcases hs with hs | hs | hs | hs | hs | hs <;>
    simp [Socket.edited, Socket.lockedOut, Socket.reinstated, Socket.enabled, hc, hl, hs]

theorem Socket.lockedOut_of_open (hc : c.lockout = false) : k.lockedOut c.lockout = k := by
  simp [Socket.lockedOut, hc]

/-- Without a lockout the edits are REINSTATE and enable. -/
theorem Socket.edited_of_open (hc : c.lockout = false) : k.edited c reinstate = (k.reinstated reinstate).enabled c.enable := by
  rw [Socket.edited, Socket.lockedOut_of_open hc]

theorem Socket.reinstated_of_other (h : ¬(k.state = .retired ∧ reinstate = true)) : k.reinstated reinstate = k := by
  unfold Socket.reinstated
  rw [if_neg]
  simp only [Bool.and_eq_true, beq_iff_eq, Bool.not_eq_true']
  exact fun ⟨⟨hr, hs⟩, _⟩ => h ⟨hs, hr⟩

theorem Socket.reinstated_of_retired (hl : k.latch = false) (hs : k.state = .retired) :
    k.reinstated true = { k with bad := 0, state := .empty } := by
  simp [Socket.reinstated, hl, hs]

theorem Socket.enabled_of_underway (hl : k.latch = false) (hs : k.underway) :
    k.enabled c.enable = { k with stop :=
      if c.enable = true then (if k.stop = .disable then .none else k.stop) else if k.stop = .none then .disable else k.stop } := by
  obtain ⟨st, _, _, stop, _, _, latch, _, _⟩ := k
  obtain rfl : latch = false := hl
  unfold Socket.underway at hs
  dsimp only at hs
  cases c.enable <;> rcases hs with rfl | rfl | rfl | rfl | rfl | rfl <;> cases stop <;> rfl

theorem Socket.underway.not_retired (hs : k.underway) : k.state ≠ .retired := by
  rcases hs with hs | hs | hs | hs | hs | hs <;> rw [hs] <;> nofun

end

/-! ### A jam cleared -/

theorem Socket.cleared_eq {k : Socket} (c : SiteConfig) (now d : Nat) (h : k.state = .jammed) :
    k.cleared c now d = { k with
      state := .recovering
      unit := none
      timer := .running .recovery (now + d) d
      latch := k.latch || c.lockout
      stop := if k.latch = true then k.stop
        else if c.lockout = true then .lock
        else if c.enable = true then (if k.stop = .disable then .none else k.stop)
        else if k.stop = .none then .disable else k.stop } := by
  unfold Socket.cleared
  rw [Socket.lockedOut_jammed _ h]
  cases hl : k.latch <;> cases hc : c.lockout <;> cases he : c.enable <;> simp [Socket.enabled]
  all_goals split_ifs <;> simp_all

theorem State.direct_eq (s : State) (i : Site) (d : Nat) :
    s.direct i d = { s with trailing := if d = 0 then .expiry i :: s.trailing else s.trailing } := by
  unfold State.direct
  split <;> rfl

/-- The state after the last edits keeps all but the socket's record and the planner's part of `u`. -/
theorem State.lastEdits_socket (u : State) (i : Site) :
    ((u.editEnable i).updateRequests i).socket i = (u.socket i).enabled (u.siteCfg i).enable := by
  rw [State.lastEdits_eq]
  exact u.socket_setSocket_self i _

theorem State.lastEdits_boardKept (u : State) (i : Site) : BoardKept u ((u.editEnable i).updateRequests i) := by
  rw [State.lastEdits_eq]
  exact BoardKept.of_same

/-- The state before the last edits of a site whose jam is cleared, its socket and what is left of the rest (R22, R26). -/
theorem State.editSite_cleared (s : State) (i : Site) (reinstate : Bool) (h : (s.socket i).state = .jammed) :
    ∃ b u : State, b = s.setSocket i ((s.socket i).lockedOut (s.siteCfg i).lockout) ∧
      s.editSite i reinstate true = (u.editEnable i).updateRequests i ∧
      u = { (b.unitLost i).setSocket i (u.socket i) with trailing := u.trailing } ∧
      (s.editSite i reinstate true).socket i = (s.socket i).cleared (s.siteCfg i) s.time ((s.profile i).recovery * 1000) ∧
      (s.editSite i reinstate true).trailing =
        (if (s.profile i).recovery * 1000 = 0 then .expiry i :: s.trailing else s.trailing) := by
  obtain ⟨b, u, hb, hu, he⟩ := State.editSite_jammed reinstate h
  rw [State.direct_eq] at hu
  have hk : b.socket i = (s.socket i).lockedOut (s.siteCfg i).lockout := by rw [hb]; exact State.socket_setSocket_self s i _
  have hv := b.unitLost_vacated i
  have hus : u.socket i = { (s.socket i).lockedOut (s.siteCfg i).lockout with
      state := .recovering
      unit := none
      timer := .running .recovery (s.time + (s.profile i).recovery * 1000) ((s.profile i).recovery * 1000) } := by
    rw [hu, hk]
    exact State.socket_setSocket_self _ i _
  have hcfg : u.siteCfg i = s.siteCfg i := by
    have hs : u.shadow = s.shadow := by rw [hu]; exact hv.shadow.trans (by rw [hb]; rfl)
    unfold State.siteCfg State.cfg; rw [hs]
  have htr : u.trailing = if (s.profile i).recovery * 1000 = 0 then .expiry i :: s.trailing else s.trailing := by
    have : (b.unitLost i).trailing = s.trailing := hv.trailing.trans (by rw [hb]; rfl)
    rw [hu, ← this]
    rfl
  refine ⟨b, u, hb, he, ?_, ?_, ?_⟩
  · rw [hk] at hu
    rw [hus, hu]
  · rw [he, State.lastEdits_socket, hus, hcfg]
    rfl
  · rw [he, State.lastEdits_eq]
    exact htr

end Sys2Proof.Machine

open Sys2Proof Sys2Proof.Machine in
/-- Settles O11: the edits of a site that clear no jam are a function of its record; a cleared jam adds the loss of the unit
and the recovery. -/
theorem siteEditTable : Obligations.SiteEditTable := by
  intro s i reinstate jamClear k t cycle
  have plain (h : ¬(k.state = .jammed ∧ jamClear = true)) : t.socket i = k.edited (s.siteCfg i) reinstate :=
    s.editSite_socket i reinstate jamClear h
  have under (hc : cycle) : k.underway := by
    rcases hc with h | h | h | h | h | h
    · exact .inl h
    · exact .inr (.inl h)
    · exact .inr (.inr (.inl h))
    · exact .inr (.inr (.inr (.inl h)))
    · exact .inr (.inr (.inr (.inr (.inl h))))
    · exact .inr (.inr (.inr (.inr (.inr h.1))))
  have stays (hc : cycle) : ¬(k.state = .jammed ∧ jamClear = true) := by
    rintro ⟨hj, hf⟩
    simp [cycle, hj, hf] at hc
  have calm {st : SocketState} (hs : k.state = st) (hn : st ≠ .jammed) : ¬(k.state = .jammed ∧ jamClear = true) :=
    fun c => hn (hs.symm.trans c.1)
  have idle (hl : k.latch = false) (hc : (s.siteCfg i).lockout = false) (h : ¬(k.state = .jammed ∧ jamClear = true))
      (hr : ¬(k.state = .retired ∧ reinstate = true)) : t.socket i = k.enabled (s.siteCfg i).enable := by
    rw [plain h, Socket.edited_of_open _ hc, Socket.reinstated_of_other _ hr]
  have raised (hl : k.latch = false) (hc : (s.siteCfg i).lockout = false) (hs : k.state = .retired)
      (hr : reinstate = true) : t.socket i = ({ k with bad := 0, state := .empty } : Socket).enabled (s.siteCfg i).enable := by
    rw [plain (calm hs nofun), Socket.edited_of_open _ hc, hr, Socket.reinstated_of_retired hl hs]
  have round (hl : k.latch = false) (hc : (s.siteCfg i).lockout = false) (h : cycle) :=
    (idle hl hc (stays h) fun c => (under h).not_retired c.1).trans (Socket.enabled_of_underway hl (under h))
  refine ⟨fun hc hl => ⟨fun hs => ?_, fun h => ?_⟩, fun hl h => ?_, fun hc hl he => ⟨?_, fun hs => ?_, fun hs hr => ?_, fun h => ?_⟩,
    fun hc hl he => ⟨?_, fun hs => ?_, fun hs hr => ?_, fun h => ?_⟩, ?_⟩
  · have hj : ¬(k.state = .jammed ∧ jamClear = true) := by rcases hs with hs | hs | hs <;> exact calm hs nofun
    rw [plain hj, Socket.edited_of_lockout_idle _ hc hl hs]
  · rw [plain (stays h), Socket.edited_of_lockout_underway _ hc hl (under h)]
  · rw [plain h, Socket.edited_of_latched _ hl]
  · rintro (hs | ⟨hs, hr⟩)
    · rw [idle hl hc (calm hs nofun) (by rw [hs]; nofun), he]; simp [Socket.enabled, hs]
    · rw [idle hl hc (calm hs nofun) (by rw [hr]; nofun), he]; simp [Socket.enabled, hs]
  · rw [idle hl hc (calm hs nofun) (by rw [hs]; nofun), he]; simp [Socket.enabled, hs, hl]
  · rw [raised hl hc hs hr, he]; simp [Socket.enabled, hl]
  · rw [round hl hc h, he]; rfl
  · rintro (hs | ⟨hs, hr⟩)
    · rw [idle hl hc (calm hs nofun) (by rw [hs]; nofun), he]; simp [Socket.enabled, hs]
    · rw [idle hl hc (calm hs nofun) (by rw [hr]; nofun), he]; simp [Socket.enabled, hs]
  · rw [idle hl hc (calm hs nofun) (by rw [hs]; nofun), he]; simp [Socket.enabled, hs, hl]
  · rw [raised hl hc hs hr, he]; simp [Socket.enabled, hl]
  · rw [round hl hc h, he]; rfl
  · intro hj hf d stop
    obtain ⟨b, u, hb, he, hu, hsock, htr⟩ := s.editSite_cleared i reinstate hj
    have ht : t = (u.editEnable i).updateRequests i := by rw [← he, ← hf]
    have hunit : (b.socket i).unit = k.unit := by
      rw [hb, State.socket_setSocket_self, Socket.lockedOut_jammed _ hj]
    have board : BoardKept (b.unitLost i) t := by
      rw [ht]
      exact BoardKept.trans (by rw [hu]; exact BoardKept.of_same) (u.lastEdits_boardKept i)
    have units : t.units = (b.unitLost i).units := by rw [ht, State.lastEdits_eq, hu]; rfl
    rw [← hf] at hsock htr
    refine ⟨hsock.trans (Socket.cleared_eq _ _ _ hj), htr, fun h hh => ?_, fun hn => ?_⟩
    · have hl : b.unitLost i = b.declareLost h .manualClear := by
        unfold State.unitLost; rw [hunit, hh]
      have hbu : b.unit h = s.unit h := by rw [hb]; rfl
      refine ⟨?_, fun r hr hp => ?_⟩
      · unfold State.unit
        rw [units, hl]
        exact b.declareLost_unit h _
      · have hn := b.declareLost_noticed .manualClear (hbu.trans hr)
        rw [← hl, lossNotice, hp] at hn
        rw [hb] at hn board
        exact (hn.kept board).from_same rfl rfl rfl
    · have hl : b.unitLost i = b := by
        unfold State.unitLost; rw [hunit, hn]
      rw [ht, State.lastEdits_eq, hu, hl, hb]
      exact ⟨rfl, rfl, rfl⟩
end

section
set_option Elab.async false

namespace Sys2Proof.Machine

/-! ## Selections in line with no head to take them -/

/-- However far the follow-up work is done, it changes only what waits in line. -/
theorem cascade_unseen (n : Nat) (s : State) (h : s.noTakers) (ha : ∀ x ∈ s.agenda ++ s.trailing, x.isSelection = true) :
    ∃ a b : List Task, cascade n s = { s with agenda := a, trailing := b } := by
  induction n generalizing s with
  | zero => exact ⟨_, _, rfl⟩
  | succ n ih =>
    cases hs : s.agenda with
    | cons x rest =>
      rw [hs] at ha
      have hx := State.noTakers.runTask (s := { s with agenda := rest }) h x (ha x List.mem_cons_self)
      rw [cascade_agenda s n hs, hx]
      exact ih { s with agenda := rest } h fun y hy => ha y (List.mem_cons_of_mem _ hy)
    | nil =>
      cases ht : s.trailing with
      | nil => exact ⟨_, _, cascade_rest s _ ⟨hs, ht⟩⟩
      | cons x rest =>
        rw [hs, ht] at ha
        have hx := State.noTakers.runTask (s := { s with trailing := rest }) h x (ha x List.mem_cons_self)
        rw [cascade_trailing s n hs ht, hx]
        exact ih { s with trailing := rest } h fun y hy => ha y (List.mem_cons_of_mem _ (by rwa [hs] at hy))

theorem State.finish_unseen (s : State) (h : s.noTakers) (ha : ∀ x ∈ s.agenda ++ s.trailing, x.isSelection = true) :
    ∃ a b : List Task, s.finish = .next { s with agenda := a, trailing := b } := by
  obtain ⟨a, b, e⟩ := cascade_unseen Config.cascadeFuel s h ha
  exact ⟨a, b, by rw [State.finish, e]⟩

/-! ## One head's work given up at a halt (R124, R181) -/

/-- What a halt leaves of one head, whichever head is taken first. -/
structure Halting (h : HeadId) (s t : State) : Prop where
  self : t.head h = { s.head h with
    state := .stopped, job := none, legs := if s.link.get h = .empty then [] else (s.head h).legs.take 1 }
  waiting : t.rail.waiting.get h = none
  freed : s.link.get h = .empty → ∀ l ∈ (s.head h).legs, LegFreed h l t
  returned : ∀ (j : Job) (i : Site), (s.head h).job = some j → j.site = some i → (s.socket i).bound = some h →
    (t.socket i).bound = none ∧ t.request i = ((s.wanted i).map fun k => { kind := k, raised := j.raised }).or (s.request i)

theorem Halting.fields {h : HeadId} {s t : State} (x : Halting h s t) :
    (t.head h).state = .stopped ∧ (t.head h).job = none ∧ (t.head h).slots = (s.head h).slots ∧
      (t.head h).legs = if s.link.get h = .empty then [] else (s.head h).legs.take 1 := by
  rw [x.self]
  exact ⟨rfl, rfl, rfl, rfl⟩

/-- What a halt of one head leaves of the rest. -/
structure HeadHalted (h : HeadId) (s t : State) : Prop extends Halting h s t where
  control : t.control = s.control
  link : t.link = s.link
  reserved : t.rail.reserved = s.rail.reserved
  waits : t.rail.waiting.get h.other = s.rail.waiting.get h.other
  other : t.head h.other = s.head h.other
  frees : Frees s t
  unbound : ∀ i : Site, (s.socket i).bound ≠ some h → t.socket i = s.socket i ∧ t.request i = s.request i
  outbox : ∃ l : List Message, t.outbox = s.outbox ++ l ∧ ∀ m ∈ l, m = .interrupt
  board : BoardKept s t

section
variable (s : State)

theorem State.returnRequest_unbound (h : HeadId) (j : Job) (i : Site) (hb : (s.socket i).bound ≠ some h) :
    (s.returnRequest h j).socket i = s.socket i ∧ (s.returnRequest h j).request i = s.request i := by
  unfold State.returnRequest
  split
  · exact ⟨rfl, rfl⟩
  · next k _ =>
    split
    · next hk =>
      have hi : k ≠ i := fun e => hb (e ▸ hk)
      obtain ⟨q, a, e, _⟩ := s.unbindReturn_eq k j.raised
      rw [e]
      exact ⟨(State.socket_setSocket s k i _).trans (if_neg hi),
        (State.request_setRequest (s.setSocket k _) k i q).trans (if_neg hi)⟩
    · exact ⟨rfl, rfl⟩

theorem State.returnRequest_regs (h : HeadId) (j : Job) : (s.returnRequest h j).regs = s.regs := by
  unfold State.returnRequest
  split
  · rfl
  · split
    · obtain ⟨q, a, e, _⟩ := s.unbindReturn_eq _ j.raised
      rw [e]; rfl
    · rfl

theorem State.withdraw_unbound (h : HeadId) (d : List Leg) (i : Site) (hb : (s.socket i).bound ≠ some h) :
    (s.withdraw h d).socket i = s.socket i ∧ (s.withdraw h d).request i = s.request i := by
  have hr := s.released_releases h d
  cases hj : (s.head h).job with
  | none => rw [State.withdraw_of_no_job s d hj]; exact ⟨hr.socket i, hr.request i⟩
  | some j =>
    rw [State.withdraw_of_job s d hj]
    obtain ⟨h1, h2⟩ := (s.released h d).returnRequest_unbound h j i (by rwa [hr.socket])
    exact ⟨h1.trans (hr.socket i), h2.trans (hr.request i)⟩

theorem State.withdraw_boardKept (h : HeadId) (d : List Leg) : BoardKept s (s.withdraw h d) := by
  have hc := s.withdraw_chooses h d
  refine BoardKept.of_low (fun b hb => ?_) hc.low hc.board
  have hf := (s.released_releases h d).flags b hb
  cases hj : (s.head h).job with
  | none => rwa [State.withdraw_of_no_job s d hj]
  | some j => rwa [State.withdraw_of_job s d hj, State.returnRequest_regs]

theorem State.withdraw_outbox (h : HeadId) (d : List Leg) :
    ∃ l : List Message, (s.withdraw h d).outbox = s.outbox ++ l ∧ ∀ m ∈ l, m = .interrupt := by
  obtain ⟨l, hl, al⟩ := (s.releaseLegs_aside h d).outbox
  obtain ⟨m, hm, am⟩ := (s.withdraw_aside h d).outbox
  refine ⟨l ++ m, hm.trans ?_, fun x hx => (List.mem_append.1 hx).elim (al x) (am x)⟩
  rw [State.setWaiting_outbox, hl, List.append_assoc]

theorem State.reroute_of_halted {s : State} (h : s.control.state = .halted) : s.reroute = s := by
  unfold State.reroute
  rw [State.isIn_eq_true h]
  rfl

/-- A head halted in HALTED, where no units are checked again. -/
theorem State.haltHead_eq (h : HeadId) (hs : s.control.state = .halted) :
    s.haltHead h = (s.withdraw h (if s.link.get h = .empty then (s.head h).legs else (s.head h).legs.tail)).setHead h
      { s.head h with
        state := .stopped, job := none, legs := if s.link.get h = .empty then [] else (s.head h).legs.take 1 } := by
  have he : (!(s.link.get h).isEmpty) = true ↔ ¬ s.link.get h = .empty := by
    cases s.link.get h <;> simp [CommandRecord.isEmpty]
  unfold State.haltHead State.setHeadState
  simp only [he, ite_not]
  rw [State.dissolve_eq, State.reroute_of_halted (by simpa [State.withdraw_control] using hs), State.withdraw_head,
    State.head_setHead_self, setHead_setHead]

theorem State.haltHead_headHalted (h : HeadId) (hs : s.control.state = .halted) : HeadHalted h s (s.haltHead h) := by
  rw [s.haltHead_eq h hs]
  generalize hd : (if s.link.get h = .empty then (s.head h).legs else (s.head h).legs.tail) = d
  have hrail := s.withdraw_rail h d
  refine ⟨⟨State.head_setHead_self _ h _, State.withdraw_waiting d, fun he l hl => ?_, fun j i hj hi hb =>
    s.withdraw_request d hj hi hb⟩, s.withdraw_control h d, s.withdraw_link h d, ?_, ?_, ?_,
    (s.withdraw_frees h d).trans Frees.of_same, s.withdraw_unbound h d, s.withdraw_outbox h d,
    (s.withdraw_boardKept h d).trans BoardKept.of_same⟩
  · rw [if_pos he] at hd
    exact (s.withdraw_freed h d l (hd ▸ hl)).mono Frees.of_same
  · rw [State.setHead_rail, hrail]
  · exact (s.withdraw_only d).waiting
  · exact (State.head_setHead _ h h.other _).trans ((if_neg (by cases h <;> decide)).trans (s.withdraw_head h d _))

end

/-! ### Both heads -/

/-- The head taken first, with the other after it. -/
theorem HeadHalted.first {h : HeadId} {s t u : State} (x : HeadHalted h s t) (y : HeadHalted h.other t u) : Halting h s u := by
  have ho : h.other.other = h := by cases h <;> rfl
  refine ⟨?_, ?_, fun he l hl => (x.freed he l hl).mono y.frees, fun j i hj hi hb => ?_⟩
  · rw [← x.self]; exact ho ▸ y.other
  · rw [← x.waiting]; exact ho ▸ y.waits
  · obtain ⟨hn, hq⟩ := x.returned j i hj hi hb
    obtain ⟨ks, kq⟩ := y.unbound i (by rw [hn]; nofun)
    exact ⟨by rw [ks, hn], kq.trans hq⟩

/-- The head taken second. -/
theorem HeadHalted.second {h : HeadId} {s t u : State} (x : HeadHalted h s t) (y : HeadHalted h.other t u) :
    Halting h.other s u := by
  have hl : t.link.get h.other = s.link.get h.other := by rw [x.link]
  refine ⟨?_, y.waiting, fun he l hm => y.freed (hl.trans he) l (by rwa [x.other]), fun j i hj hi hb => ?_⟩
  · rw [y.self, x.other, hl]
  · obtain ⟨ks, kq⟩ := x.unbound i (by rw [hb]; cases h <;> decide)
    have := y.returned j i (by rwa [x.other]) hi (by rwa [ks])
    rwa [State.wanted_congr ks x.frees.shadow, kq] at this

/-- The halt's own effects, before the heads give up their work. -/
def State.halting (s : State) : State :=
  let s := { s with control := { s.control with state := .halted, holdAck := false } }.setFlag .state
  { s.send .stopAll with link := ⟨s.link.a.stopDog, s.link.b.stopDog⟩ }

theorem State.enterHalted_eq (s : State) : s.enterHalted = (s.halting.haltHead .a).haltHead .b := rfl

/-- What a halt leaves of the heads, and the rest of the state. -/
structure Halted (s t : State) : Prop where
  control : t.control = { s.control with state := .halted, holdAck := false }
  heads : ∀ h : HeadId, Halting h s t
  link : ∀ h : HeadId, t.link.get h = (s.link.get h).stopDog
  reserved : t.rail.reserved = s.rail.reserved
  flag : t.regs.attention.getLsbD AttentionClass.state.bit = true
  outbox : ∃ l : List Message, t.outbox = s.outbox ++ l ∧ .stopAll ∈ l ∧ ∀ m ∈ l, m = .stopAll ∨ m = .interrupt
  board : BoardKept s t

theorem State.halting_congr (s : State) : s.halting = { s with
    control := { s.control with state := .halted, holdAck := false }
    link := ⟨s.link.a.stopDog, s.link.b.stopDog⟩
    regs := s.halting.regs
    outbox := s.halting.outbox } := by
  unfold State.halting State.setFlag State.setRegisters State.send
  simp only
  split <;> rfl

theorem State.halting_flag (s : State) : s.halting.regs.attention.getLsbD AttentionClass.state.bit = true :=
  State.setFlag_bit _ .state

theorem State.halting_outbox (s : State) : ∃ l : List Message,
    s.halting.outbox = s.outbox ++ l ∧ .stopAll ∈ l ∧ ∀ m ∈ l, m = .stopAll ∨ m = .interrupt := by
  obtain ⟨l, hl, al⟩ := State.setFlag_outbox { s with control := { s.control with state := .halted, holdAck := false } } .state
  refine ⟨l ++ [.stopAll], ?_, List.mem_append_right _ (List.mem_singleton.2 rfl), fun m hm => ?_⟩
  · rw [← List.append_assoc]
    exact congrArg (· ++ [Message.stopAll]) hl
  · rcases List.mem_append.1 hm with hm | hm
    · exact .inr (al m hm)
    · exact .inl (List.mem_singleton.1 hm)

theorem State.halting_boardKept (s : State) : BoardKept s s.halting :=
  BoardKept.trans (BoardKept.trans (t := { s with control := { s.control with state := .halted, holdAck := false } })
    BoardKept.of_same (BoardKept.setFlag _ .state)) BoardKept.of_same

theorem Halting.congr {h : HeadId} {s v t : State} (x : Halting h v t) (hp : v.planner = s.planner) (hs : v.sites = s.sites)
    (hc : v.shadow = s.shadow) (hl : v.link.get h = .empty ↔ s.link.get h = .empty) : Halting h s t := by
  have hh : v.head h = s.head h := by rw [State.head, hp]; rfl
  have hk (i : Site) : v.socket i = s.socket i := by rw [State.socket, hs]; rfl
  have hq (i : Site) : v.request i = s.request i := by rw [State.request, hp]; rfl
  obtain ⟨self, waiting, freed, returned⟩ := x
  refine ⟨?_, waiting, fun he => by rw [← hh]; exact freed (hl.2 he), fun j i hj hi hb => ?_⟩
  · rw [self, hh]
    simp only [hl]
  · rw [← State.wanted_congr (hk i) hc, ← hq i]
    exact returned j i (by rwa [hh]) hi (by rwa [hk])

theorem Halting.of_halting {h : HeadId} {s t : State} (x : Halting h s.halting t) : Halting h s t := by
  have e := s.halting_congr
  refine x.congr (by rw [e]) (by rw [e]) (by rw [e]) ?_
  rw [e]
  cases h <;> exact CommandRecord.stopDog_eq_empty

theorem State.enterHalted_halted (s : State) : Halted s s.enterHalted := by
  have e := s.halting_congr
  have hc : s.halting.control.state = .halted := by rw [e]
  have x := s.halting.haltHead_headHalted .a hc
  have y := (s.halting.haltHead .a).haltHead_headHalted .b (by rw [x.control]; exact hc)
  rw [State.enterHalted_eq]
  obtain ⟨l, hl, al, bl⟩ := s.halting_outbox
  obtain ⟨m, hm, am⟩ := x.outbox
  obtain ⟨n, hn, an⟩ := y.outbox
  have board : BoardKept s.halting ((s.halting.haltHead .a).haltHead .b) := x.board.trans y.board
  refine ⟨?_, fun h => ?_, fun h => ?_, ?_, board.flags _ s.halting_flag, ⟨l ++ m ++ n, ?_, ?_, fun z hz => ?_⟩,
    s.halting_boardKept.trans board⟩
  · rw [y.control, x.control, e]
  · cases h
    · exact (x.first y).of_halting
    · exact (x.second y).of_halting
  · rw [y.link, x.link, e]
    cases h <;> rfl
  · rw [y.reserved, x.reserved, e]
  · rw [hn, hm, hl, List.append_assoc, List.append_assoc, List.append_assoc]
  · exact List.mem_append_left _ (List.mem_append_left _ al)
  · rcases List.mem_append.1 hz with hz | hz
    · exact (List.mem_append.1 hz).elim (bl z) fun hz => .inr (am z hz)
    · exact .inr (an z hz)

/-- The fields that a notice and the time leave alone. -/
structure SameWork (s v : State) : Prop where
  control : v.control = s.control
  planner : v.planner = s.planner
  rail : v.rail = s.rail
  link : v.link = s.link
  sites : v.sites = s.sites
  shadow : v.shadow = s.shadow
  agenda : v.agenda = s.agenda
  trailing : v.trailing = s.trailing

theorem State.raise_sameWork (s : State) (e : Nat) (n : Notice) : SameWork s (State.raise { s with time := e } n) := by
  rw [State.raise_eq]
  exact ⟨rfl, rfl, rfl, rfl, rfl, rfl, rfl, rfl⟩

theorem Halted.haltedFrom {s v t : State} (x : Halted v t) (w : SameWork s v)
    (hf : v.regs.attention.getLsbD AttentionClass.notice.bit = true)
    (ho : ∃ o : List Message, v.outbox = s.outbox ++ o ∧ ∀ m ∈ o, m = .interrupt) : haltedFrom s t := by
  obtain ⟨o, ho, ao⟩ := ho
  obtain ⟨l, hl, al, bl⟩ := x.outbox
  refine ⟨by rw [x.control, w.control], x.flag, x.board.flags _ hf, ⟨o ++ l, by rw [hl, ho, List.append_assoc],
    List.mem_append_right _ al, fun m hm => (List.mem_append.1 hm).elim (fun hm => .inr (ao m hm)) (bl m)⟩, fun h => ?_⟩
  have y : Halting h s t := (x.heads h).congr w.planner w.sites w.shadow (by rw [w.link])
  obtain ⟨hstate, hjob, hslots, hlegs⟩ := y.fields
  refine ⟨hstate, hjob, hslots, y.waiting, by rw [x.reserved, w.rail], by rw [x.link, w.link], fun he => ?_, fun he => ?_,
    y.returned⟩
  · exact ⟨LegFreed.withdrawn s (y.freed he) hslots y.waiting y.returned, hjob, hlegs.trans (if_pos he)⟩
  · exact hlegs.trans (if_neg he)

/-- What waits in line is no part of what a halt leaves. -/
theorem Halted.queued {s t : State} (x : Halted s t) (a b : List Task) : Halted s { t with agenda := a, trailing := b } := by
  refine ⟨x.control, fun h => ?_, x.link, x.reserved, x.flag, x.outbox, x.board.trans BoardKept.of_same⟩
  obtain ⟨self, waiting, freed, returned⟩ := x.heads h
  exact ⟨self, waiting, fun he l hl => ⟨(freed he l hl).claim, (freed he l hl).strip, (freed he l hl).pocket⟩, returned⟩

/-- A halt from a state in which nothing waits in line. -/
theorem State.enterHalted_finish (v : State) (hr : v.atRest) :
    ∃ t : State, v.enterHalted.finish = .next t ∧ Halted v t ∧ t.time = v.time := by
  have x := v.enterHalted_halted
  have c := v.enterHalted_chooses
  have stopped (h : HeadId) : (v.enterHalted.head h).state = .stopped := (x.heads h).fields.1
  have quiet : ∀ y ∈ v.enterHalted.agenda ++ v.enterHalted.trailing, y.isSelection = true := fun y hy =>
    (c.tasks y hy).resolve_left fun hm => by
      rw [show v.agenda = [] from hr.1, show v.trailing = [] from hr.2] at hm
      cases hm
  have takers : v.enterHalted.noTakers := fun h => by rw [stopped]; decide
  have time := c.time
  generalize v.enterHalted = u at x quiet takers time ⊢
  obtain ⟨a, b, hab⟩ := u.finish_unseen takers quiet
  exact ⟨_, hab, x.queued a b, time⟩

/-- A halt with its notice, its follow-up work done. -/
theorem State.halts (s : State) (e : Nat) (n : Notice) (hr : s.atRest) :
    ∃ t : State, (State.raise { s with time := e } n).enterHalted.finish = .next t ∧ haltedFrom s t ∧ t.time = e ∧
      noticed { s with time := e } t n := by
  have hn : noticed { s with time := e } (State.raise { s with time := e } n) n := noticed_raise n rfl rfl rfl
  have hf := State.raise_bit { s with time := e } n
  have ho := State.raise_outbox { s with time := e } n
  have ht := State.raise_time { s with time := e } n
  have w := s.raise_sameWork e n
  generalize State.raise { s with time := e } n = v at hn hf ho ht w ⊢
  obtain ⟨t, h, x, time⟩ := v.enterHalted_finish ⟨w.agenda.trans hr.1, w.trailing.trans hr.2⟩
  exact ⟨t, h, x.haltedFrom w hf ho, time.trans ht, hn.kept x.board⟩

/-! ### The causes (R119, R120, R123) -/

theorem placedAt_eq (s : State) (h : HeadId) (n : Notice) : s.noticeAtLeg h n = placedAt n (s.head h).legs := by
  unfold State.noticeAtLeg placedAt Notice.atPlace
  cases (s.head h).legs with
  | nil => rfl
  | cons l rest => cases hl : l.location <;> simp [hl]

/-- The serial of an ACTION_TIMEOUT, by the action and the place (R120). -/
theorem State.actionSerial_eq (s : State) (h : HeadId) (k : Nozzle) (a : Action) :
    s.actionSerial h k a = match a, (s.head h).legs.head?.map Leg.location with
      | .place, _ => ((s.slot h k).bind s.unit).map UnitRecord.serial
      | .pick, some (.socket i) => ((s.socket i).unit.bind s.unit).map UnitRecord.serial
      | .pick, some (.strip p) => ((s.stripPocket p).content.bind s.unit).map UnitRecord.serial
      | .pick, _ => none := by
  unfold State.actionSerial State.socketSerial State.serialOf
  cases a
  · cases hl : (s.head h).legs.head?.map Leg.location with
    | none => rfl
    | some l => cases l <;> rfl
  · rfl

theorem State.watched_iff (s : State) : s.watched = true ↔
    s.control.state = .run ∨ s.control.state = .draining ∨ s.control.state = .holding := by
  simp [State.watched, State.working_iff, State.isIn, or_assoc]

theorem State.takeDriveFault_of_armed {s : State} (f : FaultTarget) (hu : s.control.state ≠ .unarmed)
    (hh : s.control.state ≠ .halted) : s.takeDriveFault f = (s.raise (faultNotice f)).enterHalted := by
  simp [State.takeDriveFault, State.isIn, hu, hh]

theorem State.takeDriveFault_of_halted {s : State} (f : FaultTarget) (hh : s.control.state = .halted) :
    s.takeDriveFault f = s.raise (faultNotice f) := by
  simp [State.takeDriveFault, State.isIn, hh]

theorem State.travelTimeout_of_running {s : State} {h : HeadId} {x y e : Nat} {px py : Fin 4} (hw : s.watched = true)
    (hl : s.link.get h = .travel x y px py (.running e)) :
    s.travelTimeout h = ((s.reach e).raise (placedAt { kind := .motionTimeout, head := some h } (s.head h).legs)).enterHalted := by
  unfold State.travelTimeout
  simp only [hw, hl, placedAt_eq]
  rfl

theorem State.actionTimeout_of_running {s : State} {h : HeadId} {k : Nozzle} {a : Action} {n e : Nat}
    (hw : s.watched = true) (hl : s.link.get h = .act k a n (.running e)) :
    s.actionTimeout h = ((s.reach e).raise (placedAt
      { kind := .actionTimeout, head := some h, nozzle := some k, serial := (s.reach e).actionSerial h k a }
      (s.head h).legs)).enterHalted := by
  unfold State.actionTimeout
  simp only [hw, hl, placedAt_eq]
  rfl

end Sys2Proof.Machine

open Sys2Proof Sys2Proof.Machine in
/-- Settles O20: each cause raises its notice and enters HALTED, where a further DRIVE_FAULT raises its notice alone. -/
theorem haltRule : Obligations.HaltRule := by
  intro s hr fault serial
  have hf (f : FaultTarget) : fault f = faultNotice f := by cases f <;> rfl
  refine ⟨fun f hu hh => ?_, fun hw => ⟨fun h x y px py e hl => ?_, fun h k a n e hl => ?_⟩, fun hh f => ?_⟩
  · obtain ⟨t, ht, from_, _, hn⟩ := s.halts s.time (fault f) hr
    refine ⟨t, ?_, from_, hn⟩
    rw [show exec (.driveFault f) s = (s.takeDriveFault f).finish from rfl, State.takeDriveFault_of_armed f hu hh, ← hf]
    exact ht
  · obtain ⟨t, ht, from_, time, hn⟩ := s.halts (max s.time e) (placedAt { kind := .motionTimeout, head := some h } (s.head h).legs) hr
    refine ⟨t, ?_, from_, time, hn⟩
    rw [show exec (.travelWatchdogExpiry h) s = (s.travelTimeout h).finish from rfl,
      State.travelTimeout_of_running (s.watched_iff.2 hw) hl]
    exact ht
  · obtain ⟨t, ht, from_, time, hn⟩ := s.halts (max s.time e) (placedAt { kind := .actionTimeout, head := some h, nozzle := some k, serial := (s.reach e).actionSerial h k a } (s.head h).legs) hr
    refine ⟨t, ?_, from_, time, ?_⟩
    · rw [show exec (.actionWatchdogExpiry h) s = (s.actionTimeout h).finish from rfl,
        State.actionTimeout_of_running (s.watched_iff.2 hw) hl]
      exact ht
    · rw [State.actionSerial_eq] at hn
      exact hn
  · rw [show exec (.driveFault f) s = (s.takeDriveFault f).finish from rfl, State.takeDriveFault_of_halted f hh, ← hf]
    exact State.finish_rest _ ⟨(s.raise_agenda _).trans hr.1, (s.raise_trailing _).trans hr.2⟩
end

section
set_option Elab.async false

namespace Sys2Proof.Machine

/-! ## What follow-up work keeps of the device's own fields -/

/-- The device state at most left by the completion of a drain; result, ERROR_ADDRESS and the shadow copies kept. -/
structure Worked (s t : State) : Prop where
  control : t.control = s.control ∨ (s.control.state = .draining ∧ t.control = { s.control with state := .drained })
  result : t.regs.result = s.regs.result
  address : t.regs.errorAddress = s.regs.errorAddress
  shadow : t.shadow = s.shadow

theorem Worked.trans {s t u : State} (h : Worked s t) (k : Worked t u) : Worked s u := by
  refine ⟨?_, k.result.trans h.result, k.address.trans h.address, k.shadow.trans h.shadow⟩
  rcases h.control with h | ⟨hs, h⟩
  · rw [← h]; exact k.control
  · refine .inr ⟨hs, ?_⟩
    rcases k.control with k | ⟨ks, _⟩
    · rw [k, h]
    · rw [h] at ks; cases ks

theorem Move.worked {s t : State} (m : Move .work s t) (h : s.control.state ≠ .holding) : Worked s t := by
  cases m with
  | inner e => rw [e]; exact ⟨.inl rfl, rfl, rfl, rfl⟩
  | attention f _ => exact ⟨.inl (by simp), by simp, by simp, by simp⟩
  | drainDone hd => exact ⟨.inr ⟨hd, rfl⟩, rfl, rfl, rfl⟩
  | holdDone hd => exact absurd hd h
  | status _ _ hv => exact absurd rfl hv
  | control _ hv _ => exact absurd rfl hv
  | shadow _ hv _ => exact absurd rfl hv
  | armed hv => exact absurd rfl hv
  | store _ _ _ h => cases h
  | _ => exact ⟨.inl rfl, rfl, rfl, rfl⟩

theorem Path.worked {s t : State} (p : Path .work s t) (h : s.control.state ≠ .holding) : Worked s t := by
  induction p with
  | refl => exact ⟨.inl rfl, rfl, rfl, rfl⟩
  | tail _ m ih =>
    refine ih.trans (m.worked ?_)
    rcases ih.control with e | ⟨_, e⟩
    · rwa [e]
    · rw [e]; nofun

/-! ## Selections while no head takes work -/

section
variable {s : State}

/-- Outside RUN, DRAINING and HOLDING a selection makes no choice but which head is first (R67). -/
theorem State.select_of_idle (hw : s.working = false) (hh : s.control.state ≠ .holding) (h : HeadId) : s.select h = s := by
  unfold State.select
  split
  · rfl
  · rw [if_neg (by simp [State.isIn, hh]), if_pos (by simp [hw])]

theorem State.selectResting_of_idle (hw : s.working = false) (hh : s.control.state ≠ .holding) :
    ∃ c : Nat, s.selectResting = { s with choices := c } := by
  unfold State.selectResting
  split
  · refine ⟨s.choices + 1, ?_⟩
    simp only [State.firstHead]
    rw [State.select_of_idle (s := { s with choices := s.choices + 1 }) hw hh,
      State.select_of_idle (s := { s with choices := s.choices + 1 }) hw hh]
  · exact ⟨_, State.select_of_idle hw hh .a⟩
  · exact ⟨_, State.select_of_idle hw hh .b⟩
  · exact ⟨_, rfl⟩

theorem State.runTask_of_idle (hw : s.working = false) (hh : s.control.state ≠ .holding) {x : Task}
    (hx : x.isSelection = true) : ∃ c : Nat, s.runTask x = { s with choices := c } := by
  cases x with
  | selectIdle => exact State.selectResting_of_idle hw hh
  | selectHead h => exact ⟨_, State.select_of_idle hw hh h⟩
  | entered i =>
    change ∃ c : Nat, s.requestEntered i = _
    have hm : s.mayBind = false := by simp [State.mayBind, hw]
    have hs : s.selectEntered i = s.selectResting := by unfold State.selectEntered; rw [hm]
    unfold State.requestEntered
    split
    · exact ⟨_, rfl⟩
    · obtain ⟨c, e⟩ := State.selectResting_of_idle hw hh
      refine ⟨c, ?_⟩
      rw [hs, e]
      unfold State.considerPreemption
      rw [if_neg]
      rw [show State.mayBind { s with choices := c } = s.mayBind from rfl, hm]
      simp
  | legEnd _ _ | runEntry | drainTest | expiry _ | hostWord _ _ _ => cases hx

/-- The selections in line, before what waits behind them. -/
theorem cascade_idle (n : Nat) (l rest : List Task) (s : State) (hw : s.working = false) (hh : s.control.state ≠ .holding)
    (hl : ∀ x ∈ l, x.isSelection = true) (ha : s.agenda = l ++ rest) :
    ∃ c : Nat, cascade (n + l.length) s = cascade n { s with agenda := rest, choices := c } := by
  induction l generalizing s with
  | nil =>
    obtain rfl : s.agenda = rest := ha
    exact ⟨s.choices, rfl⟩
  | cons x l ih =>
    obtain ⟨c, e⟩ := State.runTask_of_idle (s := { s with agenda := l ++ rest }) hw hh (hl x List.mem_cons_self)
    rw [List.length_cons, ← Nat.add_assoc, cascade_agenda s _ (show s.agenda = x :: (l ++ rest) from ha), e]
    exact ih { s with agenda := l ++ rest, choices := c } hw hh (fun y hy => hl y (List.mem_cons_of_mem _ hy)) rfl

end

/-! ## Selections, tests of R180 and recoveries that end -/

theorem State.updateRequests_shape (s : State) (i : Site) : ∃ (q : Option Request) (a : List Task),
    s.updateRequests i = { s.setRequest i q with agenda := a } ∧ (a = s.agenda ∨ a = s.agenda ++ [.entered i]) := by
  by_cases hb : (s.socket i).bound = none
  · exact ⟨_, _, State.updateRequests_eq hb, State.updateRequests_agenda⟩
  · refine ⟨s.request i, s.agenda, ?_, .inl rfl⟩
    rw [State.updateRequests_of_bound hb, State.setRequest_of_eq rfl]

/-- No timer runs at the socket, or its recovery does (R3, R16). -/
def Socket.recovers (k : Socket) : Prop :=
  k.timer = .stopped ∨ (k.state = .recovering ∧ ∃ e d : Nat, k.timer = .running .recovery e d)

/-- What follow-up work that ends the recoveries of some sites leaves alone. -/
structure Going (E : Site → Prop) (s t : State) : Prop where
  low : ∀ a : Nat, a < 0x4000 → readByte t.mem a = readByte s.mem a
  sockets : ∀ i : Site, ¬E i → t.socket i = { s.socket i with bound := (t.socket i).bound }
  recovers : ∀ i : Site, (s.socket i).recovers → (t.socket i).recovers
  awake : s.control.state ≠ .holding →
    t.control.state ≠ .holding ∧ ∀ h : HeadId, (s.head h).state ≠ .stopped → (t.head h).state ≠ .stopped
  opens : s.framesOpen → t.framesOpen ∧ t.mem = s.mem
  tasks : ∀ x ∈ t.agenda ++ t.trailing, x ∈ s.agenda ++ s.trailing ∨ x.isSelection = true

section
variable {E : Site → Prop} {s t u : State}

theorem Going.refl : Going E s s :=
  ⟨fun _ _ => rfl, fun _ _ => rfl, fun _ => id, fun h => ⟨h, fun _ => id⟩, fun h => ⟨h, rfl⟩, fun _ => .inl⟩

theorem Going.trans (h : Going E s t) (k : Going E t u) : Going E s u :=
  ⟨fun a ha => (k.low a ha).trans (h.low a ha), fun i hi => Socket.boundOnly_trans (h.sockets i hi) (k.sockets i hi),
    fun i => k.recovers i ∘ h.recovers i,
    fun hd => ⟨(k.awake (h.awake hd).1).1, fun g hg => (k.awake (h.awake hd).1).2 g ((h.awake hd).2 g hg)⟩,
    fun ho => ⟨(k.opens (h.opens ho).1).1, (k.opens (h.opens ho).1).2.trans (h.opens ho).2⟩,
    fun x hx => (k.tasks x hx).elim (h.tasks x) .inr⟩

theorem Selects.going (h : Selects s t) : Going E s t := by
  refine ⟨h.chooses.low, fun i _ => h.chooses.sockets i, fun i hi => ?_, h.awake, h.opens, h.chooses.tasks⟩
  rw [h.chooses.sockets i]
  exact hi

/-- Work taken out of line. -/
theorem Going.fewer {a b : List Task} (h : ∀ x ∈ a ++ b, x ∈ s.agenda ++ s.trailing) :
    Going E s { s with agenda := a, trailing := b } :=
  ⟨fun _ _ => rfl, fun _ _ => rfl, fun _ => id, fun h => ⟨h, fun _ => id⟩, fun h => ⟨h, rfl⟩, fun x hx => .inl (h x hx)⟩

theorem Going.updateRequests (i : Site) : Going E s (s.updateRequests i) := by
  obtain ⟨q, a, e, ha⟩ := s.updateRequests_shape i
  rw [e]
  refine ⟨fun _ _ => rfl, fun _ _ => rfl, fun _ => id, fun h => ⟨h, fun _ => id⟩, fun h => ⟨h, rfl⟩, fun x hx => ?_⟩
  rcases ha with rfl | rfl
  · exact .inl hx
  · simp only [List.mem_append, List.mem_singleton] at hx ⊢
    rcases hx with (hx | rfl) | hx
    · exact .inl (.inl hx)
    · exact .inr rfl
    · exact .inl (.inr hx)

/-- The socket of a site whose recovery ends, its timer stopped. -/
theorem Going.setSocket {i : Site} (hi : E i) {k : Socket} (hk : k.timer = .stopped) : Going E s (s.setSocket i k) := by
  refine ⟨fun _ _ => rfl, fun j hj => ?_, fun j hj => ?_, fun h => ⟨h, fun _ => id⟩, fun h => ⟨h, rfl⟩, fun x hx => .inl hx⟩
  · rw [State.socket_setSocket, if_neg (fun e : i = j => hj (e ▸ hi))]
  · rw [State.socket_setSocket]
    split
    · exact .inl hk
    · exact hj

theorem Going.socketClear (i : Site) (h : HeadId) : Going E s (s.socketClear i h) := by
  unfold State.socketClear
  split
  · split
    · next k _ _ =>
      split
      · have hs : Selects s (s.sendAct h k .place 1) := Selects.of_same
        exact (hs.trans (State.setHeadState_selects _ h .acting nofun)).going
      · exact Going.refl
    · exact Going.refl
  · exact Going.refl

theorem Going.recoveryExpired {i : Site} (hi : E i) : Going E s (s.recoveryExpired i) := by
  unfold State.recoveryExpired State.enterStopped
  split
  · exact (Going.setSocket hi rfl).trans ((Going.setSocket hi (by rw [State.socket_setSocket_self])).trans (Going.updateRequests i))
  · refine (Going.setSocket hi (k := { s.socket i with state := .empty, timer := .stopped }) rfl).trans ?_
    simp only
    split
    · exact Going.socketClear i _
    · exact Going.updateRequests i

/-- An expiry in line, at a socket that recovers or of which no timer runs (R3, R16). -/
theorem Going.timerExpired {i : Site} (hi : E i) (hk : (s.socket i).recovers) : Going E s (s.timerExpired i) := by
  rcases hk with hk | ⟨hs, e, d, hk⟩
  · have : s.timerExpired i = s := by unfold State.timerExpired; rw [hk]
    rw [this]
    exact Going.refl
  · rw [State.timerExpired_recovery hs hk]
    have hr : Going E s (s.reach e) :=
      ⟨fun _ _ => rfl, fun _ _ => rfl, fun _ => id, fun h => ⟨h, fun _ => id⟩, fun h => ⟨h, rfl⟩, fun _ => .inl⟩
    exact hr.trans (Going.recoveryExpired hi)

/-- Work that a RUN leaves in line: selections, tests of R180, and recoveries that end at once. -/
def State.runsOut (E : Site → Prop) (s : State) : Prop :=
  ∀ x ∈ s.agenda ++ s.trailing, x.isSelection = true ∨ x = .drainTest ∨ ∃ i : Site, E i ∧ (s.socket i).recovers ∧ x = .expiry i

theorem Going.runsOut (h : Going E s t) (hs : s.runsOut E) : t.runsOut E := by
  intro x hx
  rcases h.tasks x hx with hx | hx
  · exact (hs x hx).imp_right (.imp_right fun ⟨i, hi, hr, e⟩ => ⟨i, hi, h.recovers i hr, e⟩)
  · exact .inl hx

theorem Going.runTask {x : Task} (hx : x.isSelection = true ∨ x = .drainTest ∨ ∃ i : Site, E i ∧ (s.socket i).recovers ∧ x = .expiry i) :
    Going E s (s.runTask x) := by
  rcases hx with hx | rfl | ⟨i, hi, hr, rfl⟩
  · exact (State.runTask_selects s x hx).going
  · exact s.drainTest_selects.going
  · exact Going.timerExpired hi hr

theorem cascade_going (n : Nat) (hs : s.runsOut E) : Going E s (cascade n s) := by
  induction n generalizing s with
  | zero => exact Going.refl
  | succ n ih =>
    have step (x : Task) (a b : List Task) (hx : x ∈ s.agenda ++ s.trailing) (hm : ∀ y ∈ a ++ b, y ∈ s.agenda ++ s.trailing) :
        Going E s (cascade n (State.runTask { s with agenda := a, trailing := b } x)) := by
      have g := (Going.fewer (E := E) hm).trans (Going.runTask (s := { s with agenda := a, trailing := b }) (hs x hx))
      exact g.trans (ih (g.runsOut hs))
    cases ha : s.agenda with
    | cons x rest =>
      rw [cascade_agenda s n ha]
      exact step x rest s.trailing (by rw [ha]; simp) fun y hy => by
        rw [ha]; simp only [List.mem_append, List.mem_cons] at hy ⊢; tauto
    | nil =>
      cases ht : s.trailing with
      | nil => rw [cascade_rest s _ ⟨ha, ht⟩]; exact Going.refl
      | cons x rest =>
        rw [cascade_trailing s n ha ht]
        exact step x s.agenda rest (by rw [ha, ht]; simp) fun y hy => by
          rw [ht]; simp only [List.mem_append, List.mem_cons] at hy ⊢; tauto

end

end Sys2Proof.Machine
end

section
set_option Elab.async false

namespace Sys2Proof.Machine

/-! ## What the edits of one site leave alone (R22 to R26, R48) -/

/-- A notice is written above the configuration area (section 8). -/
theorem State.raise_low (s : State) (n : Notice) (a : Nat) (h : a < 0x1000) : readByte (s.raise n).mem a = readByte s.mem a := by
  rcases s.board_cases with ⟨k, hq, hk⟩ | hw
  · rw [(s.raise_of_free n hq hk).1, readByte_slotWritten_of_outside]
    unfold Config.slotBase
    omega
  · rw [(s.raise_of_waiting n hw).1]

/-- Configuration bytes kept, unit records at most freed, and at most some selections more in line. -/
structure Clears (n : Nat) (s t : State) : Prop where
  low : ∀ a : Nat, a < 0x1000 → readByte t.mem a = readByte s.mem a
  units : ∀ v : Handle, t.unit v = s.unit v ∨ t.unit v = none
  agenda : ∃ l : List Task, t.agenda = s.agenda ++ l ∧ l.length ≤ n ∧ ∀ x ∈ l, x.isSelection = true

section
variable {s t u : State} {m n : Nat}

theorem Clears.trans (h : Clears m s t) (k : Clears n t u) : Clears (m + n) s u := by
  obtain ⟨l, hl, nl, al⟩ := h.agenda
  obtain ⟨r, hr, nr, ar⟩ := k.agenda
  refine ⟨fun a ha => (k.low a ha).trans (h.low a ha), fun v => ?_, l ++ r, ?_, ?_, fun x hx => ?_⟩
  · rcases k.units v with e | e
    · rw [e]; exact h.units v
    · exact .inr e
  · rw [hr, hl, List.append_assoc]
  · rw [List.length_append]; omega
  · exact (List.mem_append.1 hx).elim (al x) (ar x)

theorem Clears.mono (h : Clears m s t) (hn : m ≤ n) : Clears n s t := by
  obtain ⟨l, hl, nl, al⟩ := h.agenda
  exact ⟨h.low, h.units, l, hl, nl.trans hn, al⟩

theorem Clears.of_same (hm : t.mem = s.mem := by rfl) (hu : t.units.records = s.units.records := by rfl)
    (ha : t.agenda = s.agenda := by rfl) : Clears 0 s t :=
  ⟨fun _ _ => by rw [hm], fun v => .inl (by rw [State.unit, hu]; rfl), [], by rw [ha, List.append_nil], Nat.le_refl 0, by simp⟩

theorem State.raise_clears (s : State) (x : Notice) : Clears 0 s (s.raise x) :=
  ⟨s.raise_low x, fun v => .inl (s.raise_unit x v), [], by simp, Nat.le_refl 0, by simp⟩

theorem State.vacate_clears (s : State) (p : Place) : Clears 1 s (s.vacate p) := by
  cases p with
  | nozzle h k => exact (Clears.of_same).mono (Nat.zero_le 1)
  | site j => exact (Clears.of_same).mono (Nat.zero_le 1)
  | strip p => exact ⟨fun _ _ => rfl, fun _ => .inl rfl, [.selectIdle], rfl, Nat.le_refl 1, by simp [Task.isSelection]⟩

theorem State.freeUnit_clears (s : State) (v : Handle) : Clears 0 s (s.freeUnit v) := by
  have h : Clears 0 s (s.setUnit v none) := by
    refine ⟨fun _ _ => rfl, fun w => ?_, [], (List.append_nil _).symm, Nat.le_refl 0, by simp⟩
    rw [State.unit_setUnit]
    split
    · exact .inr rfl
    · exact .inl rfl
  have hd : Clears 0 (s.setUnit v none) (s.freeUnit v) := by
    unfold State.freeUnit
    have hm : (s.setUnit v none).drainTest.mem = (s.setUnit v none).mem := by
      unfold State.drainTest
      split
      · simp [State.setDevice]
      · rfl
    rw [State.drainTest_eq] at hm ⊢
    exact Clears.of_same
  exact h.trans hd

theorem State.declareLost_clears (s : State) (v : Handle) (cause : LossCause) : Clears 1 s (s.declareLost v cause) := by
  cases h : s.unit v with
  | none => rw [State.declareLost_of_none s cause h]; exact (Clears.of_same).mono (Nat.zero_le 1)
  | some r =>
    rw [State.declareLost_of_some s cause h]
    exact (s.raise_clears _).trans ((State.vacate_clears _ _).trans (State.freeUnit_clears _ v))

theorem State.unitLost_clears (s : State) (i : Site) : Clears 1 s (s.unitLost i) := by
  unfold State.unitLost
  split
  · exact (Clears.of_same).mono (Nat.zero_le 1)
  · exact s.declareLost_clears _ _

/-- The sockets that the lost unit's record does not name are as before. -/
theorem State.declareLost_socket (s : State) (v : Handle) (cause : LossCause) (j : Site)
    (h : ∀ r : UnitRecord, s.unit v = some r → r.place ≠ .site j) : (s.declareLost v cause).socket j = s.socket j := by
  cases hv : s.unit v with
  | none => rw [State.declareLost_of_none s cause hv]
  | some r =>
    rw [State.declareLost_of_some s cause hv, State.freeUnit, State.drainTest_eq]
    change ((s.raise (lossNotice r cause)).vacate r.place).socket j = _
    have hp := h r hv
    cases e : r.place with
    | nozzle h k => exact s.raise_socket _ j
    | site i => exact ((State.socket_setSocket _ i j _).trans (if_neg fun c => hp (by rw [e, c]))).trans (s.raise_socket _ j)
    | strip p => exact s.raise_socket _ j

/-- The records of the units in a socket name it (R32). -/
def State.holdsOwn (s : State) (i : Site) : Prop :=
  ∀ (v : Handle) (r : UnitRecord), (s.socket i).unit = some v → s.unit v = some r → r.place = .site i

theorem State.unitLost_socket (s : State) (i j : Site) (hj : j ≠ i) (h : s.holdsOwn i) : (s.unitLost i).socket j = s.socket j := by
  unfold State.unitLost
  split
  · rfl
  · next v hv =>
    refine s.declareLost_socket v _ j fun r hr hp => hj ?_
    have := (h v r hv hr).symm.trans hp
    injection this with e
    exact e.symm

/-- The record that the edits of a site leave (R22 to R26). -/
def State.editedSocket (s : State) (i : Site) (reinstate jamClear : Bool) : Socket :=
  if (s.socket i).state = .jammed ∧ jamClear = true then
    (s.socket i).cleared (s.siteCfg i) s.time ((s.profile i).recovery * 1000)
  else (s.socket i).edited (s.siteCfg i) reinstate

theorem State.editedSocket_congr {s t : State} {i : Site} (a b : Bool) (hk : t.socket i = s.socket i)
    (hc : t.shadow = s.shadow) (ht : t.time = s.time) : t.editedSocket i a b = s.editedSocket i a b := by
  unfold State.editedSocket
  rw [hk, State.profile_congr hc, State.siteCfg, State.siteCfg, State.cfg, State.cfg, hc, ht]

/-- What the edits of one site leave of the others, and what they put in line. -/
structure SiteEdit (i : Site) (jamClear : Bool) (s t : State) : Prop extends Clears 2 s t where
  shadow : t.shadow = s.shadow
  time : t.time = s.time
  others : ∀ j : Site, j ≠ i → t.socket j = { s.socket j with unit := (t.socket j).unit }
  kept : s.holdsOwn i → ∀ j : Site, j ≠ i → t.socket j = s.socket j
  trailing : t.trailing = s.trailing ∨ (t.trailing = .expiry i :: s.trailing ∧ (t.socket i).recovers ∧
    (s.socket i).state = .jammed ∧ jamClear = true ∧ (s.profile i).recovery = 0)

/-- The last two edits: the socket's record, the site's request, and perhaps its entry in line (R19, R24). -/
theorem State.lastEdits_shape (s : State) (i : Site) : ∃ (k : Socket) (q : Option Request) (a : List Task),
    (s.editEnable i).updateRequests i = { (s.setSocket i k).setRequest i q with agenda := a } ∧
      (a = s.agenda ∨ a = s.agenda ++ [.entered i]) := by
  rw [State.editEnable_eq]
  obtain ⟨q, a, e, ha⟩ := State.updateRequests_shape (s.setSocket i ((s.socket i).enabled (s.siteCfg i).enable)) i
  exact ⟨_, q, a, e, ha⟩

theorem State.lastEdits_clears (s : State) (i : Site) : Clears 1 s ((s.editEnable i).updateRequests i) := by
  obtain ⟨k, q, a, e, ha⟩ := s.lastEdits_shape i
  rw [e]
  refine ⟨fun _ _ => rfl, fun _ => .inl rfl, ?_⟩
  rcases ha with rfl | rfl
  · exact ⟨[], (List.append_nil _).symm, Nat.zero_le 1, by simp⟩
  · exact ⟨[.entered i], rfl, Nat.le_refl 1, by simp [Task.isSelection]⟩

theorem State.lastEdits_other (s : State) (i j : Site) (h : j ≠ i) :
    ((s.editEnable i).updateRequests i).socket j = s.socket j := by
  obtain ⟨k, q, a, e, _⟩ := s.lastEdits_shape i
  rw [e]
  exact (State.socket_setSocket s i j k).trans (if_neg h.symm)

/-- The edits of a site that clear no jam, from its record's first edits on. -/
theorem State.editSite_plain (s : State) (i : Site) (reinstate jamClear : Bool)
    (h : ¬((s.socket i).state = .jammed ∧ jamClear = true)) : ∃ k : Socket,
    s.editSite i reinstate jamClear = ((s.setSocket i k).editEnable i).updateRequests i := by
  refine ⟨((s.socket i).lockedOut (s.siteCfg i).lockout).reinstated reinstate, ?_⟩
  unfold State.editSite
  rw [State.firstEdits_eq, State.editJamClear_of_other _ _ _ (by
    rw [State.socket_setSocket_self, Socket.edits_jammed_iff]; exact h)]

theorem State.editSite_siteEdit (s : State) (i : Site) (reinstate jamClear : Bool) :
    SiteEdit i jamClear s (s.editSite i reinstate jamClear) := by
  have other (k : Socket) (j : Site) (hj : j ≠ i) : (s.setSocket i k).socket j = s.socket j :=
    (State.socket_setSocket s i j k).trans (if_neg hj.symm)
  by_cases h : (s.socket i).state = .jammed ∧ jamClear = true
  · obtain ⟨hj, rfl⟩ := h
    obtain ⟨b, u, hb, he, hu, hsock, htr⟩ := s.editSite_cleared i reinstate hj
    have hv := b.unitLost_vacated i
    have toB : Clears 0 s b := by rw [hb]; exact Clears.of_same
    have toU : Clears 0 (b.unitLost i) u := by rw [hu]; exact Clears.of_same
    have sock (j : Site) (hn : j ≠ i) : (s.editSite i reinstate true).socket j = (b.unitLost i).socket j := by
      rw [he, State.lastEdits_other u i j hn, hu]
      exact (State.socket_setSocket _ i j _).trans (if_neg hn.symm)
    have keeps (hn : (s.editSite i reinstate true).shadow = u.shadow ∧ (s.editSite i reinstate true).time = u.time) :
        (s.editSite i reinstate true).shadow = s.shadow ∧ (s.editSite i reinstate true).time = s.time := by
      have hs : u.shadow = s.shadow ∧ u.time = s.time := by
        rw [hu]
        exact ⟨hv.shadow.trans (by rw [hb]; rfl), hv.time.trans (by rw [hb]; rfl)⟩
      exact ⟨hn.1.trans hs.1, hn.2.trans hs.2⟩
    obtain ⟨hshadow, htime⟩ := keeps (by
      obtain ⟨k, q, a, e, _⟩ := u.lastEdits_shape i
      rw [he, e]
      exact ⟨rfl, rfl⟩)
    refine ⟨?_, hshadow, htime, fun j hn => ?_, fun ho j hn => ?_, ?_⟩
    · rw [he]
      exact toB.trans ((b.unitLost_clears i).trans (toU.trans (u.lastEdits_clears i)))
    · have := hv.socket j
      rw [sock j hn, ← other _ j hn, ← hb]
      exact this
    · rw [sock j hn, b.unitLost_socket i j hn, hb, other _ j hn]
      intro v r hu hr
      rw [hb, State.socket_setSocket_self, Socket.lockedOut_jammed _ hj] at hu
      exact ho v r hu (by rw [hb] at hr; exact hr)
    · rw [htr]
      split
      · next hd =>
        refine .inr ⟨rfl, ?_, hj, rfl, by omega⟩
        rw [hsock, Socket.cleared_eq _ _ _ hj]
        exact .inr ⟨rfl, _, _, rfl⟩
      · exact .inl rfl
  · obtain ⟨k, e⟩ := s.editSite_plain i reinstate jamClear h
    have same (j : Site) (hn : j ≠ i) : (s.editSite i reinstate jamClear).socket j = s.socket j := by
      rw [e, State.lastEdits_other _ i j hn, other k j hn]
    obtain ⟨k', q, a, e', _⟩ := (s.setSocket i k).lastEdits_shape i
    refine ⟨?_, by rw [e, e']; rfl, by rw [e, e']; rfl, fun j hn => by rw [same j hn], fun _ => same, .inl (by rw [e, e']; rfl)⟩
    rw [e]
    exact (Clears.trans (n := 1) (Clears.of_same (s := s) (t := s.setSocket i k)) (State.lastEdits_clears _ i)).mono (by omega)

theorem State.editSite_editedSocket (s : State) (i : Site) (reinstate jamClear : Bool) :
    (s.editSite i reinstate jamClear).socket i = s.editedSocket i reinstate jamClear := by
  unfold State.editedSocket
  split
  · next h =>
    obtain ⟨hj, rfl⟩ := h
    obtain ⟨_, _, _, _, _, hs, _⟩ := s.editSite_cleared i reinstate hj
    exact hs
  · next h => exact s.editSite_socket i reinstate jamClear h

theorem Socket.edited_unit (k : Socket) (c : SiteConfig) (reinstate : Bool) : (k.edited c reinstate).unit = k.unit := by
  have lock (k : Socket) (b : Bool) : (k.lockedOut b).unit = k.unit := by
    unfold Socket.lockedOut; split <;> [split <;> rfl; rfl]
  have back (k : Socket) (b : Bool) : (k.reinstated b).unit = k.unit := by unfold Socket.reinstated; split <;> rfl
  have on (k : Socket) (b : Bool) : (k.enabled b).unit = k.unit := by
    unfold Socket.enabled; cases k.state <;> cases b <;> simp [apply_ite Socket.unit]
  rw [Socket.edited, on, back, lock]

theorem State.editedSocket_unit (s : State) (i : Site) (reinstate jamClear : Bool) :
    (s.editedSocket i reinstate jamClear).unit = (s.socket i).unit ∨ (s.editedSocket i reinstate jamClear).unit = none := by
  unfold State.editedSocket
  split
  · next h => rw [Socket.cleared_eq _ _ _ h.1]; exact .inr rfl
  · rw [Socket.edited_unit]
    exact .inl rfl

end

end Sys2Proof.Machine
end

section
set_option Elab.async false

namespace Sys2Proof.Machine

/-! ## The edits of all sites, and the action flags written back (R22, R27) -/

/-- The edits of a list of sites, with the action flags of each. -/
def State.editAll (s : State) (p q : Site → Bool) (l : List Site) : State := l.foldl (fun s i => s.editSite i (p i) (q i)) s

/-- What the edits of some sites leave. -/
structure Edits (p q : Site → Bool) (l : List Site) (s t : State) : Prop extends Clears (2 * l.length) s t where
  shadow : t.shadow = s.shadow
  time : t.time = s.time
  others : ∀ j : Site, j ∉ l → t.socket j = { s.socket j with unit := (t.socket j).unit }
  trailing : ∀ x ∈ t.trailing, x ∈ s.trailing ∨ ∃ i ∈ l, x = .expiry i ∧ (t.socket i).recovers ∧
    (s.socket i).state = .jammed ∧ q i = true ∧ (s.profile i).recovery = 0
  exactly : (∀ j : Site, s.holdsOwn j) →
    (∀ j ∈ l, t.socket j = s.editedSocket j (p j) (q j)) ∧ ∀ j ∉ l, t.socket j = s.socket j

theorem SiteEdit.holdsOwn {s t : State} {i : Site} {a b : Bool} (h : SiteEdit i b s t)
    (hk : t.socket i = s.editedSocket i a b) (ho : ∀ j : Site, s.holdsOwn j) (j : Site) : t.holdsOwn j := by
  intro v r hu hr
  have hr' : s.unit v = some r := (h.units v).elim (fun e => by rwa [← e]) fun e => by rw [e] at hr; cases hr
  refine ho j v r ?_ hr'
  by_cases e : j = i
  · subst e
    rw [hk] at hu
    exact (s.editedSocket_unit j a b).elim (fun e => by rwa [← e]) fun e => by rw [e] at hu; cases hu
  · rwa [← h.kept (ho i) j e]

theorem State.editAll_edits (p q : Site → Bool) (l : List Site) (hl : l.Nodup) (s : State) :
    Edits p q l s (s.editAll p q l) := by
  induction l generalizing s with
  | nil => exact ⟨Clears.of_same, rfl, rfl, fun _ _ => rfl, fun x hx => .inl hx, fun _ => ⟨nofun, fun _ _ => rfl⟩⟩
  | cons i l ih =>
    obtain ⟨hi, hn⟩ := List.nodup_cons.1 hl
    have h := s.editSite_siteEdit i (p i) (q i)
    have hk := s.editSite_editedSocket i (p i) (q i)
    have k := ih hn (s.editSite i (p i) (q i))
    change Edits p q (i :: l) s ((s.editSite i (p i) (q i)).editAll p q l)
    generalize s.editSite i (p i) (q i) = v at h hk k ⊢
    generalize v.editAll p q l = t at k ⊢
    refine ⟨(h.toClears.trans k.toClears).mono (by simp; omega), k.shadow.trans h.shadow, k.time.trans h.time, fun j hj => ?_,
      fun x hx => ?_, fun ho => ?_⟩
    · obtain ⟨hji, hjl⟩ := not_or.1 (mt List.mem_cons.2 hj)
      have := k.others j hjl
      rw [h.others j hji] at this
      exact this
    · rcases k.trailing x hx with hx | ⟨j, hj, e, hr, hs, hq, hp⟩
      · rcases h.trailing with e | ⟨e, hr, hs, hq, hp⟩
        · rw [e] at hx; exact .inl hx
        · rw [e] at hx
          rcases List.mem_cons.1 hx with rfl | hx
          · refine .inr ⟨i, List.mem_cons_self, rfl, ?_, hs, hq, hp⟩
            rw [k.others i hi]
            exact hr
          · exact .inl hx
      · refine .inr ⟨j, List.mem_cons_of_mem _ hj, e, hr, ?_, hq, ?_⟩
        · rw [h.others j fun e => hi (e ▸ hj)] at hs; exact hs
        · rwa [State.profile_congr h.shadow] at hp
    · obtain ⟨inl, outl⟩ := k.exactly (h.holdsOwn hk ho)
      refine ⟨fun j hj => ?_, fun j hj => ?_⟩
      · rcases List.mem_cons.1 hj with rfl | hj
        · rw [outl j hi, hk]
        · have hji : j ≠ i := fun e => hi (e ▸ hj)
          rw [inl j hj]
          exact State.editedSocket_congr _ _ (h.kept (ho i) j hji) h.shadow h.time
      · obtain ⟨hji, hjl⟩ := not_or.1 (mt List.mem_cons.2 hj)
        rw [outl j hjl, h.kept (ho i) j hji]

/-! ### The write-back -/

/-- The action flags of a list of sites written back. -/
def State.writeBackAll (s : State) (w : Site → Word) (l : List Site) : State := l.foldl (fun s i => s.writeBack i (w i)) s

/-- A site's action flags were read as set (R27). -/
def flagged (w : Word) : Bool := w.getLsbD 0 || w.getLsbD 1

theorem State.writeBack_eq (s : State) (i : Site) (w : Word) : s.writeBack i w = { s with mem := (s.writeBack i w).mem } := by
  unfold State.writeBack
  split <;> rfl

theorem State.writeBack_of_flagged (s : State) (i : Site) {w : Word} (h : flagged w = true) :
    (s.writeBack i w).mem = writeWord s.mem (Config.siteBase i + 8) 0#32 := by
  unfold State.writeBack
  rw [if_pos (by exact h)]
  rfl

theorem State.writeBack_of_clear (s : State) (i : Site) {w : Word} (h : ¬flagged w = true) : (s.writeBack i w).mem = s.mem := by
  unfold State.writeBack
  rw [if_neg (by exact h)]

theorem actionFlags_writeWord (m : List Host.Cell) (i j : Site) :
    actionFlags (writeWord m (Config.siteBase i + 8) 0#32) j = if j = i then 0#32 else actionFlags m j := by
  unfold actionFlags
  have hi := i.isLt
  have hj := j.isLt
  split
  · next e =>
    subst e
    have stored (o : Nat) (h : o < 4) : writable (Config.siteBase j + 8 + o) = true := by
      unfold Config.siteBase writable
      simp only [Bool.or_eq_true, Bool.and_eq_true, decide_eq_true_eq]
      omega
    exact readWord_writeWord m _ _ (stored 0 (by decide)) (stored 1 (by decide)) (stored 2 (by decide)) (stored 3 (by decide))
  · next e =>
    have := Fin.val_ne_of_ne e
    refine readWord_writeWord_of_apart m _ _ _ ?_
    unfold Config.siteBase
    omega

theorem State.writeBackAll_eq (w : Site → Word) (l : List Site) (s : State) :
    ∃ m : List Host.Cell, s.writeBackAll w l = { s with mem := m } := by
  induction l generalizing s with
  | nil => exact ⟨s.mem, rfl⟩
  | cons i l ih =>
    change ∃ m : List Host.Cell, (s.writeBack i (w i)).writeBackAll w l = _
    rw [s.writeBack_eq i (w i)]
    exact ih _

theorem State.writeBackAll_flags (w : Site → Word) (l : List Site) (s : State) (j : Site) :
    (j ∈ l ∧ flagged (w j) = true → actionFlags (s.writeBackAll w l).mem j = 0#32) ∧
    (¬(j ∈ l ∧ flagged (w j) = true) → actionFlags (s.writeBackAll w l).mem j = actionFlags s.mem j) := by
  induction l generalizing s with
  | nil => exact ⟨fun h => absurd h.1 List.not_mem_nil, fun _ => rfl⟩
  | cons i l ih =>
    obtain ⟨ih1, ih2⟩ := ih (s.writeBack i (w i))
    change (_ → actionFlags ((s.writeBack i (w i)).writeBackAll w l).mem j = _) ∧
      (_ → actionFlags ((s.writeBack i (w i)).writeBackAll w l).mem j = _)
    have first : actionFlags (s.writeBack i (w i)).mem j = if j = i ∧ flagged (w i) = true then 0#32 else actionFlags s.mem j := by
      by_cases hf : flagged (w i) = true
      · rw [s.writeBack_of_flagged i hf, actionFlags_writeWord]
        simp [hf]
      · rw [s.writeBack_of_clear i hf, if_neg fun c => hf c.2]
    by_cases hl : j ∈ l ∧ flagged (w j) = true
    · exact ⟨fun _ => ih1 hl, fun h => absurd ⟨List.mem_cons_of_mem _ hl.1, hl.2⟩ h⟩
    · rw [ih2 hl, first]
      refine ⟨fun ⟨hm, hf⟩ => ?_, fun h => if_neg fun ⟨e, hf⟩ => h ⟨e ▸ List.mem_cons_self, e ▸ hf⟩⟩
      rcases List.mem_cons.1 hm with rfl | hm
      · exact if_pos ⟨rfl, hf⟩
      · exact absurd ⟨hm, hf⟩ hl

theorem State.takeEdits_eq (s : State) : s.takeEdits =
    (s.editAll (fun i => (actionFlags s.mem i).getLsbD 0) (fun i => (actionFlags s.mem i).getLsbD 1) allSites).writeBackAll
      (actionFlags s.mem) allSites := rfl

end Sys2Proof.Machine
end

section
set_option Elab.async false

namespace Sys2Proof.Machine

/-! ## The checks of a RUN (R169) -/

theorem firstFailure_of_pass {l : List Check} (h : ∀ c ∈ l, c.pass = true) : firstFailure l = none := by
  unfold firstFailure
  rw [List.find?_eq_none]
  intro c hc
  simp [h c hc]

theorem firstFailure_of_fail {l before after : List Check} {c : Check} (e : l = before ++ c :: after)
    (h : ∀ b ∈ before, b.pass = true) (hc : c.pass = false) : firstFailure l = some c := by
  have hb : before.find? (fun c => !c.pass) = none := firstFailure_of_pass h
  unfold firstFailure
  rw [e, List.find?_append, hb, List.find?_cons_of_pos (by simp [hc])]
  rfl

/-! ## The entry to RUN or DRAINING (R76, R170, R175) -/

theorem State.setHeadState_self (s : State) (h : HeadId) : s.setHeadState h (s.head h).state = s := by
  unfold State.setHeadState State.setHead State.head
  cases h <;> rfl

/-- The state of a head that the entry to RUN or DRAINING leaves (R76). -/
def HeadState.awake (st : HeadState) : HeadState := if st = .stopped then .idle else st

theorem HeadState.awake_ne (st : HeadState) : st.awake ≠ .stopped := by
  unfold HeadState.awake
  split
  · nofun
  · assumption

theorem State.wakeHead_eq (s : State) (h : HeadId) : s.wakeHead h = s.setHeadState h (s.head h).state.awake := by
  unfold State.wakeHead HeadState.awake
  split
  · rfl
  · exact (s.setHeadState_self h).symm

/-- The device state entered, and in DRAINING the units checked (R47, R175). -/
def State.entering (s : State) : State :=
  let t : State := { s with
    control := { s.control with state := if s.control.drainLatch = true then .draining else .run, holdAck := false } }
  if s.control.drainLatch = true then t.reroute else t

theorem State.entering_eq (s : State) : ∃ (r : Vector (Option UnitRecord) 64) (l : List Task), (∀ x ∈ l, x.isSelection = true) ∧
    s.entering = { s with
      control := { s.control with state := if s.control.drainLatch = true then .draining else .run, holdAck := false }
      units := { s.units with records := r }
      agenda := s.agenda ++ l } := by
  unfold State.entering
  simp only
  split
  · obtain ⟨r, l, _, hl, e⟩ := State.reroute_eq { s with
      control := { s.control with state := .draining, holdAck := false } }
    refine ⟨r, l, fun x hx => ?_, e⟩
    obtain ⟨g, rfl⟩ := hl x hx
    rfl
  · exact ⟨s.units.records, [], by simp, by simp⟩

theorem State.entering_head (s : State) (h : HeadId) : s.entering.head h = s.head h := by
  obtain ⟨_, _, _, e⟩ := s.entering_eq
  rw [e]
  rfl

theorem State.enterFromHeld_eq {s : State} (h : s.control.state = .held) : s.enterFromHeld =
    (((s.entering.setHeadState .a (s.head .a).state.awake).setHeadState .b (s.head .b).state.awake).push .selectIdle).push
      .drainTest := by
  have hb : ((s.entering.setHeadState .a (s.head .a).state.awake).head .b) = s.head .b :=
    (State.head_setHead _ .a .b _).trans ((if_neg nofun).trans (s.entering_head .b))
  rw [← s.entering_head .a, ← State.wakeHead_eq] at *
  rw [← hb, ← State.wakeHead_eq]
  unfold State.enterFromHeld State.entering
  rw [State.isIn_eq_true h]
  rfl

/-- What the entry leaves of a state with nothing in line but trailing work. -/
structure Entered (s f : State) : Prop where
  control : f.control =
    { s.control with state := if s.control.drainLatch = true then .draining else .run, holdAck := false }
  regs : f.regs = s.regs
  shadow : f.shadow = s.shadow
  mem : f.mem = s.mem
  sites : f.sites = s.sites
  trailing : f.trailing = s.trailing
  agenda : ∀ x ∈ f.agenda, x ∈ s.agenda ∨ x.isSelection = true ∨ x = .drainTest
  awake : ∀ h : HeadId, (f.head h).state ≠ .stopped

theorem State.enterFromHeld_entered {s : State} (h : s.control.state = .held) : Entered s s.enterFromHeld := by
  rw [State.enterFromHeld_eq h]
  obtain ⟨r, l, hl, e⟩ := s.entering_eq
  refine ⟨?_, ?_, ?_, ?_, ?_, ?_, fun x hx => ?_, fun g => ?_⟩
  · rw [e]; rfl
  · rw [e]; rfl
  · rw [e]; rfl
  · rw [e]; rfl
  · rw [e]; rfl
  · rw [e]; rfl
  · rw [e] at hx
    change x ∈ ((s.agenda ++ l) ++ [.selectIdle]) ++ [.drainTest] at hx
    simp only [List.mem_append, List.mem_singleton] at hx
    rcases hx with ((hx | hx) | rfl) | rfl
    · exact .inl hx
    · exact .inr (.inl (hl x hx))
    · exact .inr (.inl rfl)
    · exact .inr (.inr rfl)
  · change (((s.entering.setHeadState .a _).setHeadState .b _).head g).state ≠ _
    cases g
    · rw [State.setHeadState, State.head_setHead, if_neg nofun]
      exact State.setHeadState_state (s := s.entering) (h := .a) _ ▸ HeadState.awake_ne _
    · rw [State.setHeadState_state]
      exact HeadState.awake_ne _

end Sys2Proof.Machine
end

section
set_option Elab.async false

namespace Sys2Proof.Machine

/-! ## A RUN taken in HELD, up to the entry (R22, R27, R159, R170) -/

/-- REINSTATE and JAM_CLEAR as read at a RUN. -/
def reinstates (m : List Host.Cell) (i : Site) : Bool := (actionFlags m i).getLsbD 0
def jamClears (m : List Host.Cell) (i : Site) : Bool := (actionFlags m i).getLsbD 1

/-- The editable records re-read (R159). -/
def State.reread (s : State) : State := { s with shadow := some (rereadInto s.cfg s.mem) }

/-- The site's jam is cleared at a RUN, and its recovery ends at once (R3, R26). -/
def State.endsAtOnce (s : State) (i : Site) : Prop :=
  (s.socket i).state = .jammed ∧ jamClears s.mem i = true ∧ (s.reread.profile i).recovery = 0

/-- What an accepted RUN leaves in HELD. -/
structure Prepared (s x : State) : Prop where
  control : x.control = s.control
  result : x.regs.result = 0#8
  shadow : x.shadow = some (rereadInto s.cfg s.mem)
  flags : ∀ i : Site,
    (flagged (actionFlags s.mem i) = true → actionFlags x.mem i = 0#32) ∧
    (¬flagged (actionFlags s.mem i) = true → actionFlags x.mem i = actionFlags s.mem i)
  agenda : x.agenda.length ≤ 72 ∧ ∀ y ∈ x.agenda, y.isSelection = true
  trailing : ∀ y ∈ x.trailing, ∃ i : Site, y = .expiry i ∧ (x.socket i).recovers ∧ s.endsAtOnce i
  exactly : (∀ j : Site, s.holdsOwn j) → ∀ i : Site,
    x.socket i = (s.reread.editSite i (reinstates s.mem i) (jamClears s.mem i)).socket i

theorem actionFlags_congr {m m' : List Host.Cell} (i : Site) (h : ∀ a : Nat, a < 0x1000 → readByte m' a = readByte m a) :
    actionFlags m' i = actionFlags m i :=
  readWord_congr fun b hb => h _ (by have := i.isLt; unfold Config.siteBase; omega)

/-- The edits of an accepted RUN, the records re-read and the result set. -/
theorem State.takeEdits_prepared {s r : State} (hr : s.atRest) (hh : s.control.state = .held) (hc : r.control = s.control)
    (hres : r.regs.result = 0#8) (hs : r.shadow = some (rereadInto s.cfg s.mem)) (hm : r.mem = s.mem)
    (hsites : r.sites = s.sites) (hu : r.units = s.units) (ht : r.time = s.time) (ha : r.agenda = s.agenda)
    (htr : r.trailing = s.trailing) : Prepared s r.takeEdits ∧ r.takeEdits.agenda.length ≤ 64 := by
  have w : Worked r r.takeEdits := r.takeEdits_path.worked (by rw [hc, hh]; nofun)
  have hcontrol : r.takeEdits.control = r.control := w.control.resolve_right fun c => by
    rw [hc, hh] at c
    exact absurd c.1 nofun
  have k := r.editAll_edits (fun i => (actionFlags r.mem i).getLsbD 0) (fun i => (actionFlags r.mem i).getLsbD 1) allSites
    (List.nodup_finRange 32)
  have hk (i : Site) : r.socket i = s.socket i := by rw [State.socket, hsites]; rfl
  have hp (i : Site) : r.profile i = s.reread.profile i := State.profile_congr hs i
  have read (i : Site) (a b : Bool) : r.editedSocket i a b = s.reread.editedSocket i a b :=
    State.editedSocket_congr a b (hk i) hs ht
  rw [State.takeEdits_eq] at w hcontrol ⊢
  generalize hv : r.editAll (fun i => (actionFlags r.mem i).getLsbD 0) (fun i => (actionFlags r.mem i).getLsbD 1) allSites = v
    at w hcontrol k ⊢
  have fl := v.writeBackAll_flags (actionFlags r.mem) allSites
  obtain ⟨m, e⟩ := v.writeBackAll_eq (actionFlags r.mem) allSites
  rw [e] at w hcontrol fl ⊢
  obtain ⟨l, hl, nl, al⟩ := k.agenda
  have hlv : v.agenda = l := by rw [hl, ha, hr.1]; rfl
  have same (i : Site) : actionFlags v.mem i = actionFlags s.mem i := (actionFlags_congr i k.low).trans (by rw [hm])
  refine ⟨⟨hcontrol.trans hc, w.result.trans hres, w.shadow.trans hs, fun i => ?_, ?_, fun y hy => ?_, fun ho i => ?_⟩, ?_⟩
  · obtain ⟨f1, f2⟩ := fl i
    rw [hm, same] at *
    exact ⟨fun h => f1 ⟨List.mem_finRange i, h⟩, fun h => f2 fun c => h c.2⟩
  · change v.agenda.length ≤ 72 ∧ ∀ y ∈ v.agenda, _
    rw [hlv]
    exact ⟨nl.trans (by simp [allSites]), al⟩
  · rcases k.trailing y hy with hy | ⟨i, _, rfl, h1, h2, h3, h4⟩
    · rw [htr, hr.2] at hy; cases hy
    · refine ⟨i, rfl, h1, by rwa [← hk], by rwa [← hm], ?_⟩
      rwa [← hp]
  · have ho' : ∀ j : Site, r.holdsOwn j := fun j u x hu' hx =>
      ho j u x (by rwa [← hk]) (by rwa [State.unit, ← hu])
    have := (k.exactly ho').1 i (List.mem_finRange i)
    rw [State.editSite_editedSocket, ← read]
    rw [hm] at this
    exact this
  · change v.agenda.length ≤ 64
    rw [hlv]
    exact nl.trans (by simp [allSites])

end Sys2Proof.Machine
end

section
set_option Elab.async false

namespace Sys2Proof.Machine

/-- The units checked after the edits (R46, R36). -/
theorem Prepared.reroute {s x : State} (h : Prepared s x) (hn : x.agenda.length ≤ 64) : Prepared s x.reroute := by
  obtain ⟨r, l, nl, hl, e⟩ := x.reroute_eq
  rw [e]
  refine ⟨h.control, h.result, h.shadow, h.flags, ⟨?_, fun y hy => ?_⟩, h.trailing, h.exactly⟩
  · change (x.agenda ++ l).length ≤ 72
    rw [List.length_append]
    omega
  · rcases List.mem_append.1 hy with hy | hy
    · exact h.agenda.2 y hy
    · obtain ⟨g, rfl⟩ := hl y hy
      rfl

/-- A RUN refused in HELD (R169). -/
theorem State.runFromHeld_of_fail {s : State} {c : Check} (h : firstFailure (runChecks s.mem s.deck) = some c) :
    s.runFromHeld = (s.setResult c.code).setErrorAddress c.offset := by
  unfold State.runFromHeld
  simp only [h]

/-- A RUN accepted in HELD: the edits done and the entry in line (R170). -/
theorem State.runFromHeld_prepared {s r : State} (hr : s.atRest) (hh : s.control.state = .held)
    (hc : firstFailure (runChecks r.mem r.deck) = none)
    (he : r = { s with regs := r.regs, outbox := r.outbox }) : ∃ x : State, r.runFromHeld = x.push .runEntry ∧ Prepared s x := by
  unfold State.runFromHeld
  simp only [hc]
  have p := State.takeEdits_prepared (s := s) (r := ({ r with shadow := some (rereadInto r.cfg r.mem) } : State).setResult 0)
    hr hh (by rw [he]; rfl) rfl (by rw [he]; rfl) (by rw [he]; rfl) (by rw [he]; rfl) (by rw [he]; rfl) (by rw [he]; rfl)
    (by rw [he]; rfl) (by rw [he]; rfl)
  generalize (({ r with shadow := some (rereadInto r.cfg r.mem) } : State).setResult 0).takeEdits = v at p ⊢
  refine ⟨_, rfl, ?_⟩
  split
  · exact p.1.reroute p.2
  · exact p.1

theorem cascade_of_prepared {s x : State} (p : Prepared s x) (hh : s.control.state = .held) :
    ∃ (n : Nat) (f w : State), cascade Config.cascadeFuel (x.push .runEntry) = cascade n f ∧ Entered w f ∧ w.agenda = [] ∧
      ∃ c : Nat, w = { x with agenda := [], choices := c } := by
  have hx : x.control.state = .held := by rw [p.control]; exact hh
  obtain ⟨n, hn⟩ : ∃ n : Nat, Config.cascadeFuel = n + 1 + x.agenda.length := ⟨Config.cascadeFuel - 1 - x.agenda.length, by
    have := p.agenda.1
    have : Config.cascadeFuel = 100000000 := rfl
    omega⟩
  have hw : (x.push .runEntry).working = false := by
    unfold State.working State.isIn
    rw [State.push_control, hx]
    rfl
  obtain ⟨c, e⟩ := cascade_idle (n + 1) x.agenda [.runEntry] (x.push .runEntry) hw (by rw [State.push_control, hx]; nofun)
    p.agenda.2 rfl
  refine ⟨n, State.enterFromHeld { x with agenda := [], choices := c }, { x with agenda := [], choices := c }, ?_,
    State.enterFromHeld_entered hx, rfl, c, rfl⟩
  rw [hn, e, cascade_agenda _ n (x := .runEntry) (rest := []) rfl]
  rfl

/-- What the follow-up work of an accepted RUN leaves. -/
structure Ran (s t : State) : Prop where
  control : (s.control.drainLatch = false → t.control = { s.control with state := .run, holdAck := false }) ∧
    (s.control.drainLatch = true → t.control = { s.control with state := .draining, holdAck := false } ∨
      t.control = { s.control with state := .drained, holdAck := false })
  result : t.regs.result = 0#8
  shadow : t.shadow = some (rereadInto s.cfg s.mem)
  flags : ∀ i : Site,
    (flagged (actionFlags s.mem i) = true → actionFlags t.mem i = 0#32) ∧
    (¬flagged (actionFlags s.mem i) = true → actionFlags t.mem i = actionFlags s.mem i)
  awake : ∀ h : HeadId, (t.head h).state ≠ .stopped
  exactly : (∀ j : Site, s.holdsOwn j) → ∀ i : Site, ¬s.endsAtOnce i →
    t.socket i = { (s.reread.editSite i (reinstates s.mem i) (jamClears s.mem i)).socket i with bound := (t.socket i).bound }

theorem Scope.bars_of_isSelection {sc : Scope} {x : Task} (h : x.isSelection = true) : sc.bars x = false := by
  cases x with
  | entered _ | selectIdle | selectHead _ => rfl
  | legEnd _ _ | runEntry | drainTest | expiry _ | hostWord _ _ _ => cases h

theorem Prepared.ran {s x f w : State} {c : Nat} (p : Prepared s x)
    (hw : w = { x with agenda := [], choices := c }) (e : Entered w f) (n : Nat) : Ran s (cascade n f) := by
  have hmem : f.mem = x.mem := by rw [e.mem, hw]
  have hsock (i : Site) : f.socket i = x.socket i := by rw [State.socket, e.sites, hw]; rfl
  have hcontrol : f.control =
      { s.control with state := if s.control.drainLatch = true then .draining else .run, holdAck := false } := by
    rw [e.control, hw]
    simp only [p.control]
  have held : f.control.state ≠ .holding := by
    rw [hcontrol]
    simp only
    split <;> nofun
  have line : f.runsOut s.endsAtOnce := fun y hy => by
    rcases List.mem_append.1 hy with hy | hy
    · rcases e.agenda y hy with h | h | h
      · rw [hw] at h; cases h
      · exact .inl h
      · exact .inr (.inl h)
    · rw [e.trailing, hw] at hy
      obtain ⟨i, rfl, hrec, hi⟩ := p.trailing y hy
      exact .inr (.inr ⟨i, hi, by rwa [hsock], rfl⟩)
  have clear : f.clearFor .work := fun y hy => by
    rcases line y hy with h | rfl | ⟨i, _, _, rfl⟩
    · exact Scope.bars_of_isSelection h
    · rfl
    · rfl
  have g := cascade_going n line
  have k := (cascade_path (sc := .work) f n (.inr clear)).worked held
  generalize cascade n f = t at g k ⊢
  refine ⟨⟨fun hl => ?_, fun hl => ?_⟩, ?_, ?_, fun i => ?_, fun h => (g.awake held).2 h (e.awake h), fun ho i hi => ?_⟩
  · rcases k.control with kc | ⟨kd, _⟩
    · rw [kc, hcontrol, hl]; rfl
    · rw [hcontrol, hl] at kd; cases kd
  · rcases k.control with kc | ⟨_, kc⟩
    · rw [kc, hcontrol, hl]; exact .inl rfl
    · rw [kc, hcontrol]; exact .inr rfl
  · rw [k.result, e.regs, hw]; exact p.result
  · rw [k.shadow, e.shadow, hw]; exact p.shadow
  · have same : actionFlags t.mem i = actionFlags x.mem i := by
      rw [← hmem]
      exact actionFlags_congr i fun a ha => g.low a (by omega)
    rw [same]
    exact p.flags i
  · rw [← p.exactly ho i, ← hsock]
    exact g.sockets i hi

/-! ## RUN in DRAINED (R171, R175) -/

theorem State.run_drained {s : State} (hr : s.atRest) {r : State} (he : r = { s with regs := r.regs, outbox := r.outbox })
    (ha : r.regs.errorAddress = s.regs.errorAddress) (n : Nat) :
    let t := cascade n ((({ r with control := { r.control with state := .run, drainLatch := false } } : State).setResult 0).push
      .selectIdle)
    t.control = { s.control with state := .run, drainLatch := false } ∧ t.regs.result = 0#8 ∧ t.shadow = s.shadow ∧
      t.regs.errorAddress = s.regs.errorAddress ∧ (∀ a : Nat, a < 0x4000 → readByte t.mem a = readByte s.mem a) ∧
      (s.framesOpen → t.mem = s.mem) := by
  generalize hf : ((({ r with control := { r.control with state := .run, drainLatch := false } } : State).setResult 0).push
      .selectIdle) = f
  have hcontrol : f.control = { s.control with state := .run, drainLatch := false } := by rw [← hf, he]; rfl
  have hmem : f.mem = s.mem := by rw [← hf, he]; rfl
  have line : ∀ y ∈ f.agenda ++ f.trailing, y = .selectIdle := fun y hy => by
    rw [← hf, he] at hy
    change y ∈ (s.agenda ++ [.selectIdle]) ++ s.trailing at hy
    rw [hr.1, hr.2] at hy
    simpa using hy
  have g := cascade_going (E := fun _ => False) n (s := f) fun y hy => .inl (by rw [line y hy]; rfl)
  have k := (cascade_path (sc := .work) f n (.inr fun y hy => by rw [line y hy]; rfl)).worked (by rw [hcontrol]; nofun)
  refine ⟨?_, ?_, ?_, ?_, fun a h => by rw [g.low a h, hmem], fun ho => ?_⟩
  · rcases k.control with kc | ⟨kd, _⟩
    · rw [kc, hcontrol]
    · rw [hcontrol] at kd; cases kd
  · rw [k.result, ← hf]; rfl
  · rw [k.shadow, ← hf, he]; rfl
  · rw [k.address, ← ha, ← hf]; rfl
  · have : f.framesOpen := by rw [← hf, he]; exact ho
    rw [(g.opens this).2, hmem]

theorem State.setThreshold_eq (s : State) (v : BitVec 3) :
    s.setThreshold v = { s with regs := (s.setThreshold v).regs, outbox := (s.setThreshold v).outbox } := by
  unfold State.setThreshold State.setRegisters State.send
  simp only
  split <;> rfl

theorem exec_run (s : State) (v : BitVec 3) : exec (.run v) s = (s.setThreshold v).requestRun.finish := rfl

theorem State.requestRun_of_held {s : State} (h : s.control.state = .held) : s.requestRun = s.runFromHeld := by
  unfold State.requestRun
  rw [h]

theorem State.requestRun_of_drained {s : State} (h : s.control.state = .drained) : s.requestRun =
    ((({ s with control := { s.control with state := .run, drainLatch := false } } : State).setResult 0).push .selectIdle) := by
  unfold State.requestRun
  rw [h]

/-- An accepted RUN in HELD, its follow-up work done. -/
theorem exec_run_of_held {s : State} (hr : s.atRest) (hh : s.control.state = .held) (v : BitVec 3)
    (hc : ∀ c ∈ runChecks s.mem s.deck, c.pass = true) : ∃ t : State, exec (.run v) s = .next t ∧ Ran s t := by
  have hs := s.setThreshold_eq v
  have hm : runChecks (s.setThreshold v).mem (s.setThreshold v).deck = runChecks s.mem s.deck := by rw [hs]; rfl
  obtain ⟨x, e, p⟩ := State.runFromHeld_prepared hr hh (by rw [hm]; exact firstFailure_of_pass hc) hs
  obtain ⟨n, f, w, hf, hw, _, c, hx⟩ := cascade_of_prepared p hh
  refine ⟨cascade n f, ?_, p.ran hx hw n⟩
  rw [exec_run, State.requestRun_of_held (by rw [hs]; exact hh), e, State.finish, hf]

end Sys2Proof.Machine

open Sys2Proof Sys2Proof.Machine in
/-- Settles O27: a RUN refused at its first failing check, a RUN from HELD through its edits, its entry and its follow-up work,
and a RUN from DRAINED. -/
theorem runRequest : Obligations.RunRequest := by
  intro s v hr
  have hs := s.setThreshold_eq v
  refine ⟨fun before after c hh hc hb hf => ?_, fun hh hc => ?_, fun hd => ?_, rfl, fun hh => ?_⟩
  · intro t
    have hm : runChecks t.mem t.deck = runChecks s.mem s.deck := by rw [show t = s.setThreshold v from rfl, hs]; rfl
    rw [exec_run, State.requestRun_of_held (by rw [hs]; exact hh),
      State.runFromHeld_of_fail (c := c) (by rw [hm]; exact firstFailure_of_fail hc hb hf)]
    refine State.finish_rest _ ?_
    rw [hs]
    exact hr
  · obtain ⟨t, e, ran⟩ := exec_run_of_held hr hh v hc
    refine ⟨t, e, ran.result, ran.shadow, fun i => ?_, fun h _ => ran.awake h, ran.control.1, ran.control.2⟩
    intro flags
    have at_ (m : List Host.Cell) : readWord m (0x300 + 16 * i.val + 8) = actionFlags m i := by
      unfold actionFlags Config.siteBase
      rw [Nat.mul_comm]
    have hfl : flags = actionFlags s.mem i := at_ s.mem
    obtain ⟨set_, clear⟩ := ran.flags i
    refine ⟨fun h => ?_, fun h0 h1 => ?_, ?_⟩
    · rw [at_]
      exact set_ (by rw [← hfl]; unfold flagged; rcases h with h | h <;> simp [h])
    · rw [at_, hfl]
      exact clear (by rw [← hfl, flagged, h0, h1]; nofun)
    · intro read ho hi
      have := ran.exactly ho i fun ⟨hj, hq, hp⟩ => hi hj (by rw [hfl]; exact hq) hp
      rw [hfl]
      exact this
  · have run := State.run_drained hr hs (by simp [State.setThreshold]) Config.cascadeFuel
    have e := exec_run s v
    rw [State.requestRun_of_drained (by rw [hs]; exact hd), State.finish] at e
    refine ⟨_, e, ?_⟩
    obtain ⟨hcontrol, hresult, hshadow, haddress, hlow, hopens⟩ := run
    exact ⟨hcontrol, hresult, hshadow, haddress, hlow, fun hw => hopens fun h l hl => by rw [(hw h).2.1] at hl; cases hl⟩
  · intro entered routed awake
    exact State.enterFromHeld_eq hh
end

section
/-! The best of a list by a strict preference, the earliest among equals: what the planner's choices of a request (R68), a unit
(R37) and a SORT leg (R63) have in common; and the best request of a head. -/

set_option Elab.async false

namespace Sys2Proof.Machine

/-! ## The best of a list -/

/-- The better of the best so far and the next. -/
def keepBetter {α : Type} (better : α → α → Bool) (best : Option α) (c : α) : Option α :=
  match best with
  | none => some c
  | some b => if better c b then some c else some b

section
variable {α : Type} {better : α → α → Bool}

theorem keepBetter_isSome (b : Option α) (c : α) : (keepBetter better b c).isSome = true := by
  unfold keepBetter
  split
  · rfl
  · split <;> rfl

theorem foldl_keepBetter_mem (l : List α) (b : Option α) {x : α} (h : l.foldl (keepBetter better) b = some x) :
    x ∈ l ∨ b = some x := by
  induction l generalizing b with
  | nil => exact .inr h
  | cons c l ih =>
    rcases ih _ h with hx | hx
    · exact .inl (List.mem_cons_of_mem c hx)
    · unfold keepBetter at hx
      split at hx
      · exact .inl (by rw [Option.some.inj hx]; exact List.mem_cons_self)
      · split at hx
        · exact .inl (by rw [Option.some.inj hx]; exact List.mem_cons_self)
        · exact .inr hx

theorem foldl_keepBetter_eq_none {l : List α} {b : Option α} (h : l.foldl (keepBetter better) b = none) : l = [] := by
  have full : ∀ (l : List α) (b : Option α), b.isSome = true → (l.foldl (keepBetter better) b).isSome = true := by
    intro l
    induction l with
    | nil => exact fun _ hb => hb
    | cons c l ih => exact fun b _ => ih _ (keepBetter_isSome b c)
  cases l with
  | nil => rfl
  | cons c l =>
    have := full l _ (keepBetter_isSome (better := better) b c)
    rw [List.foldl_cons] at h
    rw [h] at this
    cases this

/-- The best of a list stands before every other in an order that the preference and the order of the list give. -/
theorem foldl_keepBetter_first {R : α → α → Prop} (refl : ∀ x, R x x) (trans : ∀ {x y z}, R x y → R y z → R x z)
    (strict : ∀ {x y}, better x y = true → R x y) (l : List α) (hl : l.Pairwise fun x y => better y x = false → R x y)
    (b : Option α) (hb : ∀ x ∈ b, ∀ y ∈ l, better y x = false → R x y) {o : α} (h : l.foldl (keepBetter better) b = some o) :
    (∀ y ∈ l, R o y) ∧ ∀ x ∈ b, R o x := by
  induction l generalizing b with
  | nil =>
    refine ⟨fun _ hy => absurd hy List.not_mem_nil, fun x hx => ?_⟩
    rw [List.foldl_nil, Option.mem_def.1 hx, Option.some.injEq] at h
    exact h ▸ refl x
  | cons c l ih =>
    obtain ⟨hc, hl⟩ := List.pairwise_cons.1 hl
    have next := fun hb' => ih hl (keepBetter better b c) hb' h
    cases b with
    | none =>
      obtain ⟨rest, first⟩ := next fun x hx y hy => by cases hx; exact hc y hy
      exact ⟨List.forall_mem_cons.2 ⟨first c rfl, rest⟩, fun _ hx => by cases hx⟩
    | some x =>
      cases e : better c x with
      | true =>
        have hk : keepBetter better (some x) c = some c := by simp [keepBetter, e]
        rw [hk] at next
        obtain ⟨rest, first⟩ := next fun z hz y hy => by cases hz; exact hc y hy
        refine ⟨List.forall_mem_cons.2 ⟨first c rfl, rest⟩, fun z hz => ?_⟩
        cases hz
        exact trans (first c rfl) (strict e)
      | false =>
        have hk : keepBetter better (some x) c = some x := by simp [keepBetter, e]
        rw [hk] at next
        obtain ⟨rest, first⟩ := next fun z hz y hy => hb z hz y (List.mem_cons_of_mem c hy)
        exact ⟨List.forall_mem_cons.2 ⟨trans (first x rfl) (hb x rfl c List.mem_cons_self e), rest⟩, first⟩

end

/-! ## Requests and offers (R68) -/

section
variable {s : State} {h : HeadId}

theorem State.bestOffer_eq (s : State) (h : HeadId) :
    s.bestOffer h = (allSites.filterMap (s.offerFor h)).foldl (keepBetter Offer.better) none := by
  unfold State.bestOffer
  congr
  funext b o
  cases b <;> rfl

theorem State.offerFor_eq_some {i : Site} {o : Offer} :
    s.offerFor h i = some o ↔ ∃ r : Request, s.request i = some r ∧ o.site = i ∧ o.raised = r.raised ∧
      s.planFor h i r = some o.plan := by
  unfold State.offerFor
  cases s.request i with
  | none => simp
  | some r =>
    simp only [Option.map_eq_some_iff, Option.some.injEq, exists_eq_left']
    constructor
    · rintro ⟨p, hp, rfl⟩; exact ⟨rfl, rfl, hp⟩
    · rintro ⟨hs, hr, hp⟩; exact ⟨o.plan, hp, by rw [← hs, ← hr]⟩

theorem State.mem_offers (o : Offer) : o ∈ allSites.filterMap (s.offerFor h) ↔ s.offerFor h o.site = some o := by
  rw [List.mem_filterMap]
  constructor
  · rintro ⟨i, _, hi⟩
    obtain ⟨_, _, rfl, _⟩ := State.offerFor_eq_some.1 hi
    exact hi
  · exact fun ho => ⟨o.site, List.mem_finRange _, ho⟩

/-- The order of R68 on offers: the higher level, then the earlier raise time, then the lower site. -/
def Offer.leads (o p : Offer) : Prop :=
  p.plan.level < o.plan.level ∨ (p.plan.level = o.plan.level ∧
    (o.raised < p.raised ∨ (o.raised = p.raised ∧ o.site ≤ p.site)))

theorem Offer.leads_refl (o : Offer) : o.leads o := .inr ⟨rfl, .inr ⟨rfl, le_refl _⟩⟩

theorem Offer.leads_trans {o p q : Offer} (a : o.leads p) (b : p.leads q) : o.leads q := by
  simp only [Offer.leads, Fin.le_def] at *
  omega

theorem Offer.leads_of_better {o p : Offer} (a : o.better p = true) : o.leads p := by
  simp only [Offer.better, Bool.or_eq_true, Bool.and_eq_true, decide_eq_true_eq, beq_iff_eq] at a
  exact a.imp_right fun ⟨hl, hr⟩ => ⟨hl.symm, .inl hr⟩

theorem Offer.leads_of_site {o p : Offer} (hs : o.site ≤ p.site) (a : p.better o = false) : o.leads p := by
  simp only [Offer.better, Bool.or_eq_false_iff, Bool.and_eq_false_iff, decide_eq_false_iff_not, beq_eq_false_iff_ne] at a
  obtain ⟨level, raised⟩ := a
  rcases (not_lt.1 level).lt_or_eq with lt | eq
  · exact .inl lt
  · rcases (not_lt.1 (raised.resolve_left (not_not.2 eq))).lt_or_eq with lt | same
    · exact .inr ⟨eq, .inl lt⟩
    · exact .inr ⟨eq, .inr ⟨same, hs⟩⟩

/-- The offers stand in the order of their sites. -/
theorem State.offers_pairwise (s : State) (h : HeadId) :
    (allSites.filterMap (s.offerFor h)).Pairwise fun o p => p.better o = false → o.leads p := by
  rw [List.pairwise_filterMap]
  refine (List.pairwise_lt_finRange 32).imp fun {i j} hij o ho p hp => ?_
  obtain ⟨_, _, rfl, _⟩ := State.offerFor_eq_some.1 ho
  obtain ⟨_, _, rfl, _⟩ := State.offerFor_eq_some.1 hp
  exact Offer.leads_of_site (le_of_lt hij)

theorem State.bestOffer_leads {o : Offer} (e : s.bestOffer h = some o) :
    s.offerFor h o.site = some o ∧ ∀ (j : Site) (p : Offer), s.offerFor h j = some p → o.leads p := by
  rw [State.bestOffer_eq] at e
  refine ⟨?_, fun j p hp => ?_⟩
  · rcases foldl_keepBetter_mem _ _ e with ho | ho
    · exact (State.mem_offers o).1 ho
    · cases ho
  · have first := foldl_keepBetter_first Offer.leads_refl Offer.leads_trans Offer.leads_of_better _ (s.offers_pairwise h) none
      (fun _ hx => by cases hx) e
    exact first.1 p (List.mem_filterMap.2 ⟨j, List.mem_finRange j, hp⟩)

theorem State.offerFor_of_bestOffer_none (e : s.bestOffer h = none) (j : Site) : s.offerFor h j = none := by
  rw [State.bestOffer_eq] at e
  exact List.filterMap_eq_nil_iff.1 (foldl_keepBetter_eq_none e) j (List.mem_finRange j)

theorem State.holdsPlaceable_iff (i : Site) : s.holdsPlaceable h i = true ↔
    ∃ (k : Nozzle) (u : Handle) (x : UnitRecord), s.slot h k = some u ∧ s.unit u = some x ∧
      (x.state = .fresh ∨ (x.state = .retest ∧ ∀ y ∈ x.attempts, y.site ≠ i)) := by
  simp only [State.holdsPlaceable, List.any_eq_true]
  refine ⟨fun ⟨k, _, hk⟩ => ?_, fun ⟨k, u, x, hk, hu, hx⟩ => ⟨k, mem_allNozzles k, ?_⟩⟩
  · split at hk
    · cases hk
    · next u x e =>
      obtain ⟨hs, hu⟩ := (s.heldUnit_eq_some h k u x).1 e
      exact ⟨k, u, x, hs, hu, (x.placeableAt_iff i).1 hk⟩
  · rw [(s.heldUnit_eq_some h k u x).2 ⟨hk, hu⟩]
    exact (x.placeableAt_iff i).2 hx

/-- A head that holds no placeable unit has no unit to place (R37, R62). -/
theorem State.placeChoice_none_of_holdsPlaceable {i : Site} (hp : s.holdsPlaceable h i = false) : s.placeChoice h i = none := by
  have none : allNozzles.filterMap (s.placeCandidate h i) = [] := by
    rw [List.filterMap_eq_nil_iff]
    intro k hk
    have hn := List.any_eq_false.1 hp k hk
    unfold State.placeCandidate
    split
    · rfl
    · next u r e => rw [e] at hn; rw [if_neg hn]
  rw [State.placeChoice, none]
  rfl

/-- The plan for a request, by its kind: the table of R68. -/
theorem State.planFor_iff (i : Site) (r : Request) (p : Plan) :
    s.planFor h i r = some p ↔
      (∃ c : PlaceChoice, r.kind = .load ∧ s.placeChoice h i = some c ∧
        p = { kind := .load, level := (s.siteCfg i).level, pick := none, place := some c }) ∨
      (∃ (k : Nozzle × Point) (c : PlaceChoice), r.kind = .swap ∧ s.pickNozzle h s.deck.sockets[i] = some k ∧
        s.placeChoice h i = some c ∧
        p = { kind := .swap, level := (s.siteCfg i).level, pick := some k, place := some c }) ∨
      (∃ k : Nozzle × Point, r.kind = .swap ∧ s.placeChoice h i = none ∧ s.control.state = .draining ∧
        s.holdsPlaceable h i = false ∧ s.pickNozzle h s.deck.sockets[i] = some k ∧
        p = { kind := .unload, level := (s.siteCfg i).level, pick := some k, place := none }) ∨
      (∃ k : Nozzle × Point, r.kind = .unload ∧ s.pickNozzle h s.deck.sockets[i] = some k ∧
        p = { kind := .unload, level := max (s.siteCfg i).level 1, pick := some k, place := none }) := by
  unfold State.planFor
  rw [show s.pickNozzle h (socketPosition s.cfg i) = s.pickNozzle h s.deck.sockets[i] from rfl]
  cases r.kind with
  | load =>
    cases s.placeChoice h i with
    | none => simp
    | some c => simp; exact eq_comm
  | unload =>
    cases s.pickNozzle h s.deck.sockets[i] with
    | none => simp
    | some k => simp; exact eq_comm
  | swap =>
    cases s.pickNozzle h s.deck.sockets[i] with
    | none => simp
    | some k =>
      cases s.placeChoice h i with
      | none =>
        simp only [State.isIn, beq_iff_eq, Option.ite_none_right_eq_some, Bool.and_eq_true, Bool.not_eq_true', and_assoc]
        simp
        exact fun _ _ => eq_comm
      | some c => simp; exact eq_comm

end

end Sys2Proof.Machine

open Sys2Proof Sys2Proof.Machine in
/-- Settles O43: the plan of each request kind, and the best offer by the order of R68, which the order of the sites completes. -/
theorem bestRequest : Obligations.BestRequest := by
  refine fun s h => ⟨fun i hn => ?_, fun i r o hr => ?_, fun o e => ?_,
    State.offerFor_of_bestOffer_none⟩
  · rw [State.offerFor, hn]
  · rw [State.offerFor_eq_some]
    simp only [hr, Option.some.injEq, exists_eq_left', State.planFor_iff]
    refine and_congr_right fun _ => and_congr_right fun _ => or_congr Iff.rfl (or_congr Iff.rfl (or_congr ?_ Iff.rfl))
    refine exists_congr fun k => and_congr_right fun _ => ?_
    rw [← State.holdsPlaceable_iff, Bool.not_eq_true]
    exact ⟨fun ⟨_, hd, hp, hk, e⟩ => ⟨hd, hp, hk, e⟩,
      fun ⟨hd, hp, hk, e⟩ => ⟨State.placeChoice_none_of_holdsPlaceable hp, hd, hp, hk, e⟩⟩
  · refine (State.bestOffer_leads e).imp_right fun leads j p hp => ?_
    obtain ⟨_, _, rfl, _⟩ := State.offerFor_eq_some.1 hp
    exact leads p.site p hp
end

section
/-! How much follow-up work an event can start (log entry 7). Every task in line counts by its weight, every head by how much
work it may still take up (`HeadRecord.rank`), every socket by the timers it may still start (`SocketState.rank`); their sum,
`State.load`, is what one event may still run up. `Costs n s t` says that the load grows by at most n from s to t. -/

set_option Elab.async false

namespace Sys2Proof.Machine

/-! ## The load -/

/-- How many other tasks a task can bring about, with itself: a leg's end, an entry to RUN and a host's word may set heads free
for a new job, the rest only spend what the heads and the sockets have left. -/
def Task.weight : Task → Nat
  | .legEnd _ _ | .runEntry | .hostWord _ _ _ => 2000
  | .entered _ | .selectIdle | .selectHead _ | .drainTest | .expiry _ => 1

/-- The weight of a line of work. -/
def weigh (l : List Task) : Nat := (l.map Task.weight).sum

/-- How often a head may still be preempted from a level (R72): the sites whose request can have a higher one. -/
def Shadow.above (c : Shadow) (level : Nat) : Nat := (Finset.univ.filter fun i : Site => level < max c.sites[i].level 1).card

/-- How often a job may still be preempted: only one for a request may (R72). -/
def Job.climb (c : Shadow) (j : Job) : Nat :=
  match j.kind with
  | .load | .swap | .unload => c.above j.level
  | .feed | .sort | .yield => 0

/-- How many times a head may still take up work before its command is answered: a resting head binds a job, a head with a job
not under way may be preempted, and may be made to yield; a head in flight or at a socket takes up none. -/
def HeadRecord.rank (c : Shadow) (r : HeadRecord) : Nat :=
  match r.state with
  | .idle | .binWait => 34
  | .bound | .railWait => 1 + (r.job.map (Job.climb c)).getD 0
  | .stopped | .moving | .acting | .socketWait | .yielding => 0

/-- A head in this state takes up no work before its command is answered. -/
def HeadState.takesNone : HeadState → Bool
  | .stopped | .moving | .acting | .socketWait | .yielding => true
  | .idle | .binWait | .bound | .railWait => false

/-- How many timers a socket may still have expire before a head comes to it (R6, R10, R14, R16). -/
def SocketState.rank : SocketState → Nat
  | .seated => 3
  | .testing => 2
  | .releasing | .recovering => 1
  | .disabled | .locked | .retired | .empty | .unloadReady | .jammed => 0

/-- The ranks of all sockets together. -/
def State.socketRanks (s : State) : Nat := ∑ i : Site, (s.socket i).state.rank

/-- The most follow-up work that can still come of the state. -/
def State.load (s : State) : Nat :=
  weigh s.agenda + weigh s.trailing + 26 * ((s.head .a).rank s.cfg + (s.head .b).rank s.cfg) + 12 * s.socketRanks

/-- No head has more than 4 legs (R56). -/
def State.fewLegs (s : State) : Prop := ∀ h : HeadId, (s.head h).legs.length ≤ 4

/-- From s to t the load grows by at most n, and each head keeps at most 4 legs. -/
def Costs (n : Int) (s t : State) : Prop := s.fewLegs → t.fewLegs ∧ (t.load : Int) ≤ s.load + n

theorem Costs.refl (s : State) : Costs 0 s s := fun h => ⟨h, by omega⟩

theorem Costs.then {m n : Int} {s t u : State} (a : Costs m s t) (b : Costs n t u) : Costs (m + n) s u := fun h => by
  obtain ⟨ht, hm⟩ := a h
  obtain ⟨hu, hn⟩ := b ht
  exact ⟨hu, by omega⟩

theorem Costs.le {m n : Int} {s t : State} (a : Costs m s t) (h : m ≤ n) : Costs n s t := fun hs => by
  obtain ⟨ht, hm⟩ := a hs
  exact ⟨ht, by omega⟩

theorem Costs.free {n : Int} (s : State) (h : 0 ≤ n := by omega) : Costs n s s := (Costs.refl s).le h

/-- The legs of a head, as many as they are, may be spoken of. -/
theorem Costs.of_fewLegs {n : Int} {s t : State} (h : s.fewLegs → Costs n s t) : Costs n s t := fun hs => h hs hs

theorem Costs.foldl {α : Type} (f : State → α → State) (n : Int) (h : ∀ s a, Costs n s (f s a)) (l : List α) (s : State) :
    Costs (n * l.length) s (l.foldl f s) := by
  induction l generalizing s with
  | nil => exact (Costs.refl s).le (by simp)
  | cons a l ih => exact ((h s a).then (ih _)).le (by push_cast [List.length_cons]; linarith [mul_add n l.length 1])

theorem Shadow.above_le (c : Shadow) (n : Nat) : c.above n ≤ 32 :=
  (Finset.card_le_univ _).trans (by simp)

/-- From a site's own level fewer sites are above than from a lower one. -/
theorem Shadow.above_lt {c : Shadow} {i : Site} {m n : Nat} (hm : m < max c.sites[i].level 1) (hn : max c.sites[i].level 1 ≤ n) :
    c.above n < c.above m := by
  refine Finset.card_lt_card (Finset.ssubset_iff_of_subset ?_ |>.2 ⟨i, ?_, ?_⟩)
  · intro j hj
    rw [Finset.mem_filter] at hj ⊢
    exact ⟨hj.1, by omega⟩
  · rw [Finset.mem_filter]
    exact ⟨Finset.mem_univ i, hm⟩
  · rw [Finset.mem_filter]
    exact fun h => absurd h.2 (not_lt.2 hn)

theorem Job.climb_le (c : Shadow) (j : Job) : j.climb c ≤ 32 := by
  unfold Job.climb
  split
  · exact c.above_le _
  · exact c.above_le _
  · exact c.above_le _
  · exact Nat.zero_le _
  · exact Nat.zero_le _
  · exact Nat.zero_le _

theorem HeadRecord.rank_bound {c : Shadow} {r : HeadRecord} (h : r.state = .bound ∨ r.state = .railWait) :
    r.rank c = 1 + (r.job.map (Job.climb c)).getD 0 := by
  unfold HeadRecord.rank
  rcases h with h | h <;> rw [h]

theorem HeadRecord.rank_resting {c : Shadow} {r : HeadRecord} (h : r.state = .idle ∨ r.state = .binWait) : r.rank c = 34 := by
  unfold HeadRecord.rank
  rcases h with h | h <;> rw [h]

theorem HeadRecord.rank_away {c : Shadow} {r : HeadRecord} (h : r.state.takesNone = true) : r.rank c = 0 := by
  unfold HeadRecord.rank
  split <;> simp_all [HeadState.takesNone]

/-- Legs and slots apart, a head that loses its job takes up no more work than before. -/
theorem HeadRecord.rank_jobless {c : Shadow} {r q : HeadRecord} (hs : r.state = q.state) (hj : r.job = none) : r.rank c ≤ q.rank c := by
  unfold HeadRecord.rank
  rw [hs, hj]
  split <;> simp

theorem HeadRecord.rank_le (c : Shadow) (r : HeadRecord) : r.rank c ≤ 34 := by
  have h : (r.job.map (Job.climb c)).getD 0 ≤ 32 := by
    cases r.job with
    | none => exact Nat.zero_le _
    | some j => exact j.climb_le c
  unfold HeadRecord.rank
  split <;> omega

/-- A rank is read from the state and the job alone. -/
theorem HeadRecord.rank_congr {c : Shadow} {r q : HeadRecord} (hs : r.state = q.state) (hj : r.job = q.job) : r.rank c = q.rank c := by
  unfold HeadRecord.rank
  rw [hs, hj]

theorem SocketState.rank_le (k : SocketState) : k.rank ≤ 3 := by cases k <;> decide

theorem State.socketRanks_le (s : State) : s.socketRanks ≤ 96 :=
  (Finset.sum_le_card_nsmul _ _ 3 fun i _ => (s.socket i).state.rank_le).trans (by simp)

theorem weigh_append (a b : List Task) : weigh (a ++ b) = weigh a + weigh b := by simp [weigh]

theorem weigh_nil : weigh [] = 0 := rfl

theorem weigh_cons (x : Task) (l : List Task) : weigh (x :: l) = x.weight + weigh l := by simp [weigh]

/-- A change of the lines of work, the heads and the sockets, told by what it does to each. -/
theorem Costs.of_parts {s t : State} (n : Int) (hw : (weigh t.agenda + weigh t.trailing : Int) ≤ weigh s.agenda + weigh s.trailing + n)
    (hh : t.planner.heads = s.planner.heads := by rfl) (hs : t.sites.sockets = s.sites.sockets := by rfl)
    (hc : t.shadow = s.shadow := by rfl) : Costs n s t := by
  have head : ∀ h, t.head h = s.head h := fun h => by rw [State.head, hh]; rfl
  have cfg : t.cfg = s.cfg := by rw [State.cfg, hc]; rfl
  have ranks : t.socketRanks = s.socketRanks := by simp only [State.socketRanks, State.socket, hs]
  refine fun h => ⟨fun g => by rw [head]; exact h g, ?_⟩
  rw [State.load, State.load, head, head, cfg, ranks]
  omega

/-- A change of records that hold no task, head or socket. -/
theorem Costs.of_same {n : Int} {s t : State} (ha : t.agenda = s.agenda := by rfl) (ht : t.trailing = s.trailing := by rfl)
    (hh : t.planner.heads = s.planner.heads := by rfl) (hs : t.sites.sockets = s.sites.sockets := by rfl)
    (hc : t.shadow = s.shadow := by rfl) (hn : 0 ≤ n := by omega) : Costs n s t :=
  (Costs.of_parts 0 (by rw [ha, ht]; omega) hh hs hc).le hn

/-- What follows a change of records that hold no task, head or socket. -/
theorem Costs.after {n : Int} {s t u : State} (b : Costs n t u) (ha : t.agenda = s.agenda := by rfl)
    (ht : t.trailing = s.trailing := by rfl) (hh : t.planner.heads = s.planner.heads := by rfl)
    (hs : t.sites.sockets = s.sites.sockets := by rfl) (hc : t.shadow = s.shadow := by rfl) : Costs n s u :=
  ((Costs.of_same ha ht hh hs hc (le_refl 0)).then b).le (by omega)

/-- A change of one head. -/
theorem Costs.of_head {s t : State} (h : HeadId) (n : Int) (ho : t.head h.other = s.head h.other)
    (hl : (s.head h).legs.length ≤ 4 → (t.head h).legs.length ≤ 4)
    (hn : (26 * (t.head h).rank s.cfg : Int) ≤ 26 * (s.head h).rank s.cfg + n)
    (ha : t.agenda = s.agenda := by rfl) (ht : t.trailing = s.trailing := by rfl) (hs : t.sites.sockets = s.sites.sockets := by rfl)
    (hc : t.shadow = s.shadow := by rfl) : Costs n s t := by
  have cfg : t.cfg = s.cfg := by rw [State.cfg, hc]; rfl
  have ranks : t.socketRanks = s.socketRanks := by simp only [State.socketRanks, State.socket, hs]
  refine fun hf => ⟨fun g => ?_, ?_⟩
  · rcases HeadId.eq_or_eq_other h g with rfl | rfl
    · exact hl (hf g)
    · rw [ho]; exact hf _
  · rw [State.load, State.load, ha, ht, cfg, ranks]
    cases h with
    | a => rw [show t.head .b = s.head .b from ho]; omega
    | b => rw [show t.head .a = s.head .a from ho]; omega

/-- A change of one socket. -/
theorem State.socketRanks_of_one {s t : State} (i : Site) (h : ∀ j : Site, j ≠ i → (t.socket j).state = (s.socket j).state) :
    t.socketRanks + (s.socket i).state.rank = s.socketRanks + (t.socket i).state.rank := by
  have rest : ∑ j ∈ Finset.univ.erase i, (t.socket j).state.rank = ∑ j ∈ Finset.univ.erase i, (s.socket j).state.rank :=
    Finset.sum_congr rfl fun j hj => by rw [h j (Finset.ne_of_mem_erase hj)]
  have ht := Finset.sum_erase_add Finset.univ (fun j => (t.socket j).state.rank) (Finset.mem_univ i)
  have hs := Finset.sum_erase_add Finset.univ (fun j => (s.socket j).state.rank) (Finset.mem_univ i)
  unfold State.socketRanks
  omega

section
variable (s : State)

theorem State.setSocket_costs (i : Site) (r : Socket) :
    Costs (12 * r.state.rank - 12 * (s.socket i).state.rank) s (s.setSocket i r) := by
  have one := State.socketRanks_of_one (s := s) (t := s.setSocket i r) i fun j hj => by
    rw [State.socket_setSocket, if_neg hj.symm]
  rw [State.socket_setSocket_self] at one
  refine fun hf => ⟨hf, ?_⟩
  have e : (s.setSocket i r).load + 12 * s.socketRanks = s.load + 12 * (s.setSocket i r).socketRanks := by
    simp only [State.load, State.head, State.setSocket_planner, State.cfg, State.setSocket_shadow, State.setSocket_agenda,
      State.setSocket_trailing]
    omega
  omega

theorem State.setSocket_same_costs (i : Site) (r : Socket) (h : r.state = (s.socket i).state := by rfl) :
    Costs 0 s (s.setSocket i r) :=
  (State.setSocket_costs s i r).le (by rw [h]; omega)

theorem State.setHead_costs (h : HeadId) (r : HeadRecord) (hl : (s.head h).legs.length ≤ 4 → r.legs.length ≤ 4) :
    Costs (26 * r.rank s.cfg - 26 * (s.head h).rank s.cfg) s (s.setHead h r) :=
  Costs.of_head h _ (by rw [State.head_setHead, if_neg (HeadId.other_ne h)]) (by rwa [State.head_setHead_self])
    (by rw [State.head_setHead_self]; omega)

/-- A head's record changed so that it takes up no more work than before. -/
theorem State.setHead_le_costs (h : HeadId) (r : HeadRecord) (hl : (s.head h).legs.length ≤ 4 → r.legs.length ≤ 4)
    (hr : r.rank s.cfg ≤ (s.head h).rank s.cfg) : Costs 0 s (s.setHead h r) :=
  (State.setHead_costs s h r hl).le (by omega)

/-- A head's record changed but for its state and its job. -/
theorem State.setHead_same_costs (h : HeadId) (r : HeadRecord) (hl : (s.head h).legs.length ≤ 4 → r.legs.length ≤ 4)
    (hs : r.state = (s.head h).state := by rfl) (hj : r.job = (s.head h).job := by rfl) : Costs 0 s (s.setHead h r) :=
  State.setHead_le_costs s h r hl (HeadRecord.rank_congr hs hj).le

theorem State.setHeadState_costs (h : HeadId) (st : HeadState) :
    Costs (26 * ({ s.head h with state := st } : HeadRecord).rank s.cfg - 26 * (s.head h).rank s.cfg) s (s.setHeadState h st) :=
  State.setHead_costs s h _ id

/-- A head put in any state at all. -/
theorem State.setHeadState_any_costs (h : HeadId) (st : HeadState) : Costs 884 s (s.setHeadState h st) :=
  (State.setHeadState_costs s h st).le (by have := HeadRecord.rank_le s.cfg { s.head h with state := st }; omega)

/-- A head put in a state in which it takes up no work. -/
theorem State.setHeadState_away_costs (h : HeadId) (st : HeadState) (hst : st.takesNone = true) :
    Costs 0 s (s.setHeadState h st) :=
  (State.setHeadState_costs s h st).le (by rw [HeadRecord.rank_away hst]; omega)

theorem State.push_costs (x : Task) : Costs x.weight s (s.push x) :=
  Costs.of_parts _ (by simp only [State.push, weigh_append, weigh_cons, weigh_nil]; omega)

theorem State.pushTrailing_costs (x : Task) : Costs x.weight s (s.pushTrailing x) :=
  Costs.of_parts _ (by simp only [State.pushTrailing, weigh_cons]; omega)

/-- A selection, a request entered, a test or an expiry put in line. -/
theorem State.push_one_costs (x : Task) (h : x.weight = 1 := by rfl) : Costs 1 s (s.push x) :=
  (State.push_costs s x).le (by rw [h]; omega)

theorem State.setRegisters_costs (r : Registers) : Costs 0 s (s.setRegisters r) :=
  Costs.of_same (by simp) (by simp) (by simp) (by simp) (by simp)

theorem State.setFlag_costs (c : AttentionClass) : Costs 0 s (s.setFlag c) := State.setRegisters_costs s _

theorem State.setSlot_costs (h : HeadId) (k : Nozzle) (u : Option Handle) : Costs 0 s (s.setSlot h k u) :=
  State.setHead_same_costs s h _ id

/-! ## The notice board, the two tests and the unit table -/

theorem State.raise_costs (n : Notice) : Costs 0 s (s.raise n) :=
  Costs.of_same (by simp) (by simp) (by simp) (by simp) (by simp)

theorem State.holdTest_costs : Costs 0 s s.holdTest := by
  unfold State.holdTest
  split
  · exact (State.setFlag_costs _ .state).after
  · exact Costs.refl s

theorem State.drainTest_costs : Costs 0 s s.drainTest := by
  unfold State.drainTest
  split
  · exact (State.setFlag_costs _ .state).after
  · exact Costs.refl s

theorem State.writeNotice_costs (k : SlotId) (n : Notice) : Costs 0 s (s.writeNotice k n) :=
  (State.setFlag_costs _ .notice).after

theorem State.slotFreed_costs (k : SlotId) : Costs 2 s (s.slotFreed k) := by
  unfold State.slotFreed
  simp only
  split
  · exact Costs.of_same
  · rename_i n rest _
    have moved : Costs 0 s (State.writeNotice { s.poke (Config.slotBase k) 0#32 with
        board := { (s.poke (Config.slotBase k) 0#32).board with queue := rest } } k n) :=
      (State.writeNotice_costs _ k n).after
    split
    · exact ((moved.then (State.push_one_costs _ .selectIdle)).then (State.push_one_costs _ .drainTest)).le (by omega)
    · exact moved.le (by omega)

theorem State.slotWrite_costs (k : SlotId) (narrow : Bool) (v : Word) : Costs 2 s (s.slotWrite k narrow v) := by
  unfold State.slotWrite
  simp only
  split
  · exact Costs.of_same
  · split
    · exact Costs.free s
    · split
      · exact State.slotFreed_costs s k
      · exact Costs.of_same

theorem State.createUnit_costs (serial : Word) (st : Fin 2) (tray : BitVec 16) (i : Nat) (h : HeadId) (k : Nozzle) :
    Costs 0 s (s.createUnit serial st tray i h k).1 := by
  unfold State.createUnit
  split
  · exact Costs.of_same
  · exact Costs.refl s

theorem State.rerouteNozzle_costs (h : HeadId) (k : Nozzle) : Costs 1 s (s.rerouteNozzle h k) := by
  unfold State.rerouteNozzle
  split
  · exact Costs.free s
  · split
    · exact Costs.free s
    · split
      · exact Costs.free s
      · exact (State.push_one_costs _ (.selectHead h)).after

theorem State.reroute_costs : Costs 8 s s.reroute := by
  unfold State.reroute
  split
  · exact Costs.free s
  · exact ((Costs.foldl _ 1 (fun s k => State.rerouteNozzle_costs s .a k) _ s).then
      (Costs.foldl _ 1 (fun s k => State.rerouteNozzle_costs s .b k) _ _)).le (by simp [allNozzles])

theorem State.reportUnusable_costs (i : Site) (b : Bool) : Costs 8 s (s.reportUnusable i b) := by
  unfold State.reportUnusable
  split
  · exact State.reroute_costs s
  · exact Costs.free s

theorem State.dropEntry_costs (p : Fin 16) : Costs 1 s (s.dropEntry p) :=
  (State.push_one_costs _ .selectIdle).after

theorem State.freeUnit_costs (u : Handle) : Costs 0 s (s.freeUnit u) := (State.drainTest_costs (s.setUnit u none)).after

theorem State.vacate_costs (p : Place) : Costs 1 s (s.vacate p) := by
  cases p with
  | nozzle h k => exact (State.setSlot_costs s h k none).le (by omega)
  | site i => exact (State.setSocket_same_costs s i _).le (by omega)
  | strip p => exact (State.dropEntry_costs _ p).after

theorem State.declareLost_costs (u : Handle) (c : LossCause) : Costs 1 s (s.declareLost u c) := by
  unfold State.declareLost
  split
  · exact Costs.free s
  · exact ((State.raise_costs s _).then ((State.vacate_costs _ _).then (State.freeUnit_costs _ u))).le (by omega)

/-! ## The tray frame unit -/

theorem State.reportRoom_costs (st : Station) : Costs 1 s (s.reportRoom st) := by
  unfold State.reportRoom
  split
  · split
    · exact State.push_one_costs s .selectIdle
    · exact Costs.free s
  · exact Costs.free s

theorem State.leaveInputs_costs (f : FrameId) : Costs 1 s (s.leaveInputs f) := by
  unfold State.leaveInputs
  simp only
  split
  · split
    · exact (State.push_one_costs _ .selectIdle).after
    · exact Costs.of_same
  · exact Costs.of_same

theorem State.spend_costs (f : FrameId) (r : FrameReason) : Costs 1 s (s.spend f r) :=
  (((State.setFlag_costs ((s.writeReason f r (s.frame f).done).writeFrameState f .spent) .tray).after.then
    (State.leaveInputs_costs _ f)).then (Costs.of_same (n := 0))).le (by omega)

theorem State.closedTest_costs (f : FrameId) : Costs 1 s (s.closedTest f) := by
  unfold State.closedTest
  simp only
  split
  · exact State.spend_costs s f _
  · exact Costs.free s

theorem State.completionTest_costs (f : FrameId) : Costs 1 s (s.completionTest f) := by
  unfold State.completionTest
  split
  · exact State.spend_costs s f _
  · exact State.closedTest_costs s f

theorem State.writeResult_costs (f : FrameId) (i : Nat) (ws : List Word) : Costs 1 s (s.writeResult f i ws) := by
  unfold State.writeResult
  split
  · exact (State.completionTest_costs _ f).after
  · exact Costs.free s

theorem State.writeOutcome_costs (f : FrameId) (i : Nat) (u : UnitRecord) : Costs 1 s (s.writeOutcome f i u) := by
  unfold State.writeOutcome
  split
  · exact (State.writeResult_costs _ f i _).after
  · exact Costs.free s

theorem State.rejectFrame_costs (f : FrameId) (r : FrameReason) : Costs 0 s (s.rejectFrame f r) := by
  have h : Costs 0 s (((s.writeReason f r 0).writeFrameState f .rejected).setFlag .tray) :=
    (State.setFlag_costs _ .tray).after
  unfold State.rejectFrame
  simp only
  split
  · exact h
  · exact (h.then (Costs.of_same (n := 0))).le (by omega)

theorem State.activateFrame_costs (f : FrameId) (st : Station) : Costs 2 s (s.activateFrame f st) := by
  have hc : Costs 0 s (s.copyFrame f st) := Costs.of_same
  unfold State.activateFrame
  simp only
  split
  · exact (hc.then (State.push_one_costs _ .selectIdle).after).le (by omega)
  · split
    · exact (hc.then (State.spend_costs _ f _)).le (by omega)
    · exact (hc.then ((State.push_one_costs _ .selectIdle).then (State.reportRoom_costs _ _))).le (by omega)

theorem State.takePosted_costs (f : FrameId) : Costs 2 s (s.takePosted f) := by
  unfold State.takePosted
  split
  · exact (State.rejectFrame_costs s f _).le (by omega)
  · exact State.activateFrame_costs s f _

theorem State.takeAllPosted_costs : Costs 24 s s.takeAllPosted := by
  refine (Costs.foldl _ 2 (fun s f => ?_) allFrames s).le (by simp [allFrames])
  split
  · exact State.takePosted_costs s f
  · exact Costs.free s

theorem State.releasePocket_costs (f : FrameId) (i : Nat) (h : HeadId) : Costs 1 s (s.releasePocket f i h) := by
  unfold State.releasePocket
  split
  · simp only
    split
    · exact (State.closedTest_costs _ f).after
    · exact (State.reportRoom_costs _ _).after
    · exact Costs.of_same
  · exact Costs.free s

/-! ## Requests and dissolutions -/

theorem State.releaseLeg_costs (h : HeadId) (l : Leg) : Costs 1 s (s.releaseLeg h l) := by
  unfold State.releaseLeg
  split
  · exact Costs.of_same
  · split
    · exact Costs.of_same
    · exact Costs.free s
  · split
    · exact State.releasePocket_costs s _ _ h
    · exact Costs.free s
  · split
    · exact State.releasePocket_costs s _ _ h
    · exact Costs.free s
  · exact Costs.free s
  · exact Costs.free s

theorem State.updateRequests_costs (i : Site) : Costs 1 s (s.updateRequests i) := by
  unfold State.updateRequests
  split
  · exact Costs.free s
  · split
    · exact (State.push_one_costs _ (.entered i)).after
    · split
      · exact Costs.free s
      · exact Costs.of_same
    · exact Costs.of_same
    · exact Costs.free s

theorem State.unbind_costs (i : Site) : Costs 1 s (s.unbind i) :=
  ((State.setSocket_same_costs s i _).then (State.updateRequests_costs _ i)).le (by omega)

theorem State.unbindReturn_costs (i : Site) (raised : Nat) : Costs 1 s (s.unbindReturn i raised) := by
  have hb : Costs 0 s (s.setSocket i { s.socket i with bound := none }) := State.setSocket_same_costs s i _
  unfold State.unbindReturn
  simp only
  split
  · exact (hb.then (State.push_one_costs _ (.entered i)).after).le (by omega)
  · exact hb.le (by omega)

theorem State.returnRequest_costs (h : HeadId) (j : Job) : Costs 1 s (s.returnRequest h j) := by
  unfold State.returnRequest
  split
  · exact Costs.free s
  · split
    · exact State.unbindReturn_costs s _ _
    · exact Costs.free s

theorem State.withdraw_costs (h : HeadId) (d : List Leg) : Costs (d.length + 1) s (s.withdraw h d) := by
  have legs := (Costs.foldl (fun s l => s.releaseLeg h l) 1 (fun s l => State.releaseLeg_costs s h l) d s).then
    (Costs.of_same (n := 0) (t := State.setWaiting _ h none))
  unfold State.withdraw
  simp only
  split
  · exact legs.le (by omega)
  · exact (legs.then (State.returnRequest_costs _ h _)).le (by omega)

/-- A dissolution costs its legs, its request and the check of the units. -/
theorem State.dissolve_costs (h : HeadId) (d kept : List Leg) (hd : d.length ≤ 4) (hk : kept.length ≤ 4) :
    Costs 13 s (s.dissolve h d kept) := by
  have dropped : Costs 0 (s.withdraw h d)
      ((s.withdraw h d).setHead h { (s.withdraw h d).head h with job := none, legs := kept }) :=
    State.setHead_le_costs _ h _ (fun _ => hk) (HeadRecord.rank_jobless rfl rfl)
  exact (((State.withdraw_costs s h d).then dropped).then (State.reroute_costs _)).le (by omega)

theorem State.dissolve_own_costs (h : HeadId) : Costs 13 s (s.dissolve h (s.head h).legs []) :=
  Costs.of_fewLegs fun hf => State.dissolve_costs s h _ _ (hf h) (Nat.zero_le 4)

end

end Sys2Proof.Machine
end

section
set_option Elab.async false

namespace Sys2Proof.Machine

section
variable (s : State)

/-! ## The rail arbiter -/

theorem State.sendTravel_costs (h : HeadId) (x y : Nat) : Costs 0 s (s.sendTravel h x y) := Costs.of_same

theorem State.grantLeg_costs (h : HeadId) (x y : Nat) (iv : Interval) : Costs 0 s (s.grantLeg h x y iv) := by
  unfold State.grantLeg
  simp only
  exact ((State.setHeadState_away_costs _ h _ (by split <;> rfl)).after.then (State.sendTravel_costs _ h x y)).le (by omega)

theorem State.regrant_costs (h : HeadId) : Costs 0 s (s.regrant h) := by
  unfold State.regrant
  split
  · exact Costs.free s
  · split
    · exact State.grantLeg_costs s h _ _ _
    · exact Costs.free s

theorem State.grant_costs (h : HeadId) (x y : Nat) (iv : Interval) : Costs 0 s (s.grant h x y iv) :=
  ((State.grantLeg_costs s h x y iv).then (State.regrant_costs _ h.other)).le (by omega)

theorem State.examine_costs (h : HeadId) (l : Leg) : Costs 0 s (s.examine h l).1 := by
  unfold State.examine
  simp only
  split
  · exact State.grant_costs s h _ _ _
  · exact Costs.of_same

/-- A leg that is not granted leaves the heads as they are. -/
theorem State.examine_waits_head {s : State} {h : HeadId} (l : Leg) (hg : (s.examine h l).2 = false) (g : HeadId) :
    (s.examine h l).1.head g = s.head g := by
  unfold State.examine at hg ⊢
  simp only at hg ⊢
  split at hg
  · cases hg
  · rename_i e
    rw [if_neg e]
    rfl

theorem HeadRecord.one_le_rank {c : Shadow} {r : HeadRecord} (h : r.state.takesNone = false) : 1 ≤ r.rank c := by
  unfold HeadRecord.rank
  split
  · omega
  · omega
  · omega
  · omega
  all_goals simp_all [HeadState.takesNone]

/-- A YIELD job costs a head that might have taken up other work nothing. -/
theorem State.giveYield_costs (h : HeadId) (hs : (s.head h).state.takesNone = false) : Costs 0 s (s.giveYield h) := by
  unfold State.giveYield
  split
  · exact Costs.free s
  · simp only
    refine ((State.setHead_le_costs s h _ (fun _ => by simp) ?_).then (State.examine_costs _ h _)).le (by omega)
    rw [HeadRecord.rank_bound (.inl rfl)]
    exact HeadRecord.one_le_rank hs

theorem State.mutualWait_costs (hs : ∀ h : HeadId, (s.head h).state.takesNone = false) : Costs 13 s s.mutualWait := by
  unfold State.mutualWait
  simp only
  generalize (if s.jobLevel .a < s.jobLevel .b then HeadId.a else HeadId.b) = y
  exact ((State.dissolve_own_costs s y).then (State.giveYield_costs _ y (by rw [State.dissolve_head]; exact hs y))).le (by omega)

theorem State.actOnBlocker_costs (h : HeadId) (hs : (s.head h).state.takesNone = false) : Costs 13 s (s.actOnBlocker h) := by
  have both : (s.head h.other).state.takesNone = false → ∀ g : HeadId, (s.head g).state.takesNone = false := fun ho g => by
    rcases HeadId.eq_or_eq_other h g with rfl | rfl
    · exact hs
    · exact ho
  unfold State.actOnBlocker
  split
  · rename_i e; exact (State.giveYield_costs s _ (by rw [e]; rfl)).le (by omega)
  · rename_i e; exact (State.giveYield_costs s _ (by rw [e]; rfl)).le (by omega)
  · rename_i e
    split
    · exact State.mutualWait_costs s (both (by rw [e]; rfl))
    · exact Costs.free s
  · rename_i e
    split
    · exact State.mutualWait_costs s (both (by rw [e]; rfl))
    · exact Costs.free s
  all_goals exact Costs.free s

/-- A leg submitted costs what a mutual wait's dissolution does. -/
theorem State.submit_costs (h : HeadId) {st : HeadState} (hst : st.takesNone = false) (hl : (s.head h).legs ≠ []) :
    Costs 13 (s.setHeadState h st) (s.submit h st) := by
  unfold State.submit
  split
  · rename_i e; exact absurd e hl
  · rename_i l _ _
    simp only
    split
    · exact (State.examine_costs _ h l).le (by omega)
    · rename_i hg
      refine ((State.examine_costs (s.setHeadState h st) h l).then (State.actOnBlocker_costs _ h ?_)).le (by omega)
      rw [State.examine_waits_head l (Bool.eq_false_iff.2 hg)]
      exact (congrArg HeadState.takesNone (State.setHeadState_state st)).trans hst

theorem State.settledHead_costs (h : HeadId) (hr : s.isResting h = true) : Costs 0 s (s.settledHead h) := by
  unfold State.settledHead
  split
  · exact Costs.free s
  · split
    · exact State.grant_costs s _ _ _ _
    · unfold State.actOnBlocker
      rw [HeadId.other_other]
      rcases State.isResting_iff.1 hr with e | e <;> rw [e] <;> exact State.giveYield_costs s h (by rw [e]; rfl)

/-! ## Job selection -/

theorem State.settle_costs (h : HeadId) (hr : s.isResting h = true) : Costs 0 s (s.settle h) :=
  ((State.settledHead_costs s h hr).then (State.drainTest_costs _)).le (by omega)

/-- A job bound and its first leg submitted: the head gives its rank for that of the job. -/
theorem State.bindJob_submit_costs (h : HeadId) (j : Job) (legs : List Leg) (hl : legs ≠ []) (h4 : legs.length ≤ 4) :
    Costs (39 + 26 * j.climb s.cfg - 26 * (s.head h).rank s.cfg) s ((s.bindJob h j legs).submit h .bound) := by
  have bound : Costs (26 + 26 * j.climb s.cfg - 26 * (s.head h).rank s.cfg) s ((s.bindJob h j legs).setHeadState h .bound) := by
    have e : (s.bindJob h j legs).setHeadState h .bound =
        s.setHead h { s.head h with state := .bound, job := some j, legs := legs, binLatch := false } := by
      unfold State.bindJob State.setHeadState
      rw [State.setHead_setHead, State.head_setHead_self]
    rw [e]
    refine (State.setHead_costs s h _ fun _ => h4).le ?_
    rw [HeadRecord.rank_bound (.inl rfl)]
    simp
    omega
  refine (bound.then (State.submit_costs _ h rfl ?_)).le (by omega)
  unfold State.bindJob
  rwa [State.head_setHead_self]

theorem State.restHead_isResting (h : HeadId) : (s.restHead h).isResting h = true := by
  rw [State.isResting_iff]
  unfold State.restHead
  simp only
  split
  · split
    · rename_i e; exact .inr e
    · split
      · exact .inr (State.setHeadState_state .binWait)
      · exact .inr (by simp)
  · exact .inl (State.setHeadState_state .idle)

theorem State.restHead_costs (h : HeadId) (hr : s.isResting h = true) : Costs 0 s (s.restHead h) := by
  have same : ∀ r : HeadRecord, r.legs = (s.head h).legs → r.state = .idle ∨ r.state = .binWait → Costs 0 s (s.setHead h r) :=
    fun r hl hs => State.setHead_le_costs s h r (by rw [hl]; exact id)
      (by rw [HeadRecord.rank_resting hs, HeadRecord.rank_resting (State.isResting_iff.1 hr)])
  unfold State.restHead
  simp only
  split
  · split
    · exact Costs.free s
    · split
      · exact same _ rfl (.inr rfl)
      · exact ((same { s.head h with state := .binWait, binLatch := true } rfl (.inr rfl)).then
          (State.setFlag_costs _ .bin)).le (by omega)
  · exact same _ rfl (.inl rfl)

theorem State.restHead_settle_costs (h : HeadId) (hr : s.isResting h = true) : Costs 0 s ((s.restHead h).settle h) :=
  ((State.restHead_costs s h hr).then (State.settle_costs _ h (State.restHead_isResting s h))).le (by omega)

theorem State.evaluateSupply_costs : Costs 0 s s.evaluateSupply := by
  unfold State.evaluateSupply
  simp only
  split
  · exact (State.setFlag_costs _ .supply).after
  · exact Costs.of_same

theorem State.feedLeg_costs (h : HeadId) {t : State} {l : Leg} (e : s.feedLeg h = some (t, l)) : Costs 0 s t := by
  unfold State.feedLeg at e
  split at e
  · cases e; exact Costs.of_same
  · split at e
    · cases e; exact Costs.of_same
    · cases e

/-! ## A SORT leg's commit (R39, R63, R137; log entry 17) -/

/-- A change of units alone changes no destination's position. -/
theorem State.destinationTarget_setUnit (u : Handle) (r : Option UnitRecord) (h : HeadId) (k : Nozzle) (d : Destination) :
    (s.setUnit u r).destinationTarget h k d = s.destinationTarget h k d := by
  cases d <;> rfl

/-- A mark changes no pocket's position. -/
theorem State.destinationTarget_setMark (f : FrameId) (i : Nat) (m : PocketMark) (h : HeadId) (k : Nozzle) (d : Destination) :
    (s.setMark f i m).destinationTarget h k d = s.destinationTarget h k d := by
  cases d with
  | strip p => rfl
  | pocket g j =>
    have copy : ((s.setMark f i m).frame g).copy = (s.frame g).copy := by
      rw [State.setMark, State.frame_setFrame]
      split
      · rename_i e; rw [e]
      · rfl
    simp only [State.destinationTarget, State.destinationPosition, copy]
    rfl

/-- An allocated pocket that the nozzle fits is reserved. -/
theorem State.commitClass_of_fits {h : HeadId} {k : Nozzle} {u : Handle} {c : Fin 8} {f : FrameId} {i : Nat} {t : Point}
    (ha : s.allocate c = some (f, i)) (ht : s.destinationTarget h k (.pocket f i) = some t) :
    ∃ l, s.commitClass h k u c = (s.setMark f i (.reserved h), some l) := by
  unfold State.commitClass
  rw [ha]
  simp only [State.destinationTarget_setMark, ht]
  exact ⟨_, rfl⟩

/-- A deliverable unit's commit finds the destination that its estimate used: a leg is made and nothing is put in line. -/
theorem State.commit_of_deliverable {h : HeadId} {taken : List Handle} {k : Nozzle} {u : Handle} {t : Point}
    (hd : s.deliverable h taken k = some (u, t)) : ∃ (v : State) (l : Leg), s.commit h k u = (v, some l) ∧ Costs 0 s v := by
  unfold State.deliverable at hd
  split at hd
  · cases hd
  rename_i v r hk
  split at hd
  swap
  · cases hd
  obtain ⟨t', ht', e⟩ := Option.map_eq_some_iff.1 hd
  obtain ⟨rfl, rfl⟩ := Prod.mk.inj e
  obtain ⟨d, hdec, htar⟩ := Option.bind_eq_some_iff.1 ht'
  have toClass : ∀ (s' : State) (c : Fin 8), Costs 0 s s' → (∀ c, s'.allocate c = s.allocate c) →
      (∀ d, s'.destinationTarget h k d = s.destinationTarget h k d) →
      (s.allocate c).map (fun fi => Destination.pocket fi.1 fi.2) = some d →
      ∃ (w : State) (l : Leg), s'.commitClass h k v c = (w, some l) ∧ Costs 0 s w := by
    intro s' c hs ha hds hc
    obtain ⟨⟨f, i⟩, hal, rfl⟩ := Option.map_eq_some_iff.1 hc
    obtain ⟨l, hl⟩ := State.commitClass_of_fits s' (u := v) ((ha c).trans hal) ((hds _).trans htar)
    exact ⟨_, l, hl, (hs.then (Costs.of_same (n := 0))).le (by omega)⟩
  unfold State.commit
  rw [((s.heldUnit_eq_some h k v r).1 hk).2]
  unfold State.decide at hdec
  split at hdec
  · cases hdec
  · rename_i c hdis
    simp only [hdis]
    exact toClass s c (Costs.refl s) (fun _ => rfl) (fun _ => rfl) hdec
  · rename_i c hdis
    simp only [hdis]
    split at hdec
    · rename_i p hp hroom
      cases hdec
      simp only [htar]
      exact ⟨_, _, rfl, Costs.of_same⟩
    · exact toClass _ c Costs.of_same (fun _ => rfl) (fun d => State.destinationTarget_setUnit s _ _ _ _ d) hdec

/-- The deliverable units of the nozzles not ruled out, each with its leg time. -/
def State.sortChoices (s : State) (h : HeadId) (taken : List Handle) (out : List Nozzle) : List (Nozzle × Handle × Nat) :=
  allNozzles.filterMap fun k =>
    if out.contains k then none else (s.deliverable h taken k).map fun ut => (k, ut.1, s.headLegTime h ut.2)

theorem State.nearest_eq (h : HeadId) (taken : List Handle) (out : List Nozzle) :
    s.nearest h taken out =
      ((s.sortChoices h taken out).foldl (keepBetter fun c b => c.2.2 < b.2.2) none).map fun c => (c.1, c.2.1) := by
  unfold State.nearest State.sortChoices
  congr 2
  funext best c
  cases best <;> simp [keepBetter]

/-- The nearest unit is a deliverable one. -/
theorem State.deliverable_of_nearest {h : HeadId} {taken : List Handle} {out : List Nozzle} {k : Nozzle} {u : Handle}
    (e : s.nearest h taken out = some (k, u)) : ∃ t, s.deliverable h taken k = some (u, t) := by
  rw [State.nearest_eq] at e
  obtain ⟨c, hc, e⟩ := Option.map_eq_some_iff.1 e
  obtain ⟨rfl, rfl⟩ := Prod.mk.inj e
  rcases foldl_keepBetter_mem _ _ hc with hm | hm
  · obtain ⟨m, _, hm⟩ := List.mem_filterMap.1 hm
    split at hm
    · cases hm
    · obtain ⟨⟨w, t⟩, hw, rfl⟩ := Option.map_eq_some_iff.1 hm
      exact ⟨t, hw⟩
  · cases hm

/-- A SORT leg is made of the first choice, or none is. -/
theorem State.sortLeg_costs (h : HeadId) (taken : List Handle) (n : Nat) (out : List Nozzle) :
    Costs 0 s (s.sortLeg h taken n out).1 ∧ ((s.sortLeg h taken n out).2 = none → (s.sortLeg h taken n out).1 = s) := by
  cases n with
  | zero => exact ⟨Costs.refl s, fun _ => rfl⟩
  | succ n =>
    unfold State.sortLeg
    split
    · exact ⟨Costs.refl s, fun _ => rfl⟩
    · rename_i k u e
      obtain ⟨t, ht⟩ := State.deliverable_of_nearest s e
      obtain ⟨v, l, hc, hv⟩ := State.commit_of_deliverable s ht
      rw [hc]
      exact ⟨hv, fun hn => by cases hn⟩

end

end Sys2Proof.Machine
end

section
set_option Elab.async false

namespace Sys2Proof.Machine

section
variable (s : State)

/-! ## Selection and preemption -/

theorem State.bindSort_costs (h : HeadId) (hr : s.isResting h = true) : Costs 0 s (s.bindSort h) := by
  obtain ⟨cost, kept⟩ := State.sortLeg_costs s h [] 4 []
  have a := State.sortLeg_aside s h [] 4 []
  unfold State.bindSort
  split
  · rename_i t u l e
    rw [e] at cost a
    have rank : (t.head h).rank t.cfg = 34 := by
      rw [a.head]; exact HeadRecord.rank_resting (State.isResting_iff.1 hr)
    refine (cost.then (State.bindJob_submit_costs t h (plainJob .sort [u]) [l] (by simp) (by simp))).le ?_
    rw [rank, show (plainJob .sort [u]).climb t.cfg = 0 from rfl]
    omega
  · rename_i t e
    rw [e] at kept
    rw [show t = s from kept rfl]
    exact State.restHead_settle_costs s h hr

theorem State.selectSupply_costs (h : HeadId) (hr : s.isResting h = true) : Costs 0 s (s.selectSupply h) := by
  have supply := State.evaluateSupply_costs s
  have a := State.evaluateSupply_aside s
  have hr' : s.evaluateSupply.isResting h = true := State.isResting_of_head (a.head h) hr
  unfold State.selectSupply
  simp only
  split
  · rename_i t l e
    split at e
    · have rank : (t.head h).rank t.cfg = 34 := by
        rw [(State.feedLeg_aside _ h e).head]; exact HeadRecord.rank_resting (State.isResting_iff.1 hr')
      refine ((supply.then (State.feedLeg_costs _ h e)).then
        (State.bindJob_submit_costs t h (plainJob .feed []) [l] (by simp) (by simp))).le ?_
      rw [rank, show (plainJob .feed []).climb t.cfg = 0 from rfl]
      omega
    · cases e
  · split
    · exact (supply.then (State.bindSort_costs _ h hr')).le (by omega)
    · exact (supply.then (State.restHead_settle_costs _ h hr')).le (by omega)

/-- The job that binding an offer makes (R20, R68). -/
def Offer.job (o : Offer) : Job :=
  { kind := o.plan.kind, site := some o.site, level := o.plan.level, raised := o.raised,
    pickNozzle := o.plan.pick.map Prod.fst, placeNozzle := o.plan.place.map (·.nozzle), taken := [], legsDone := 0 }

theorem State.bindOffer_eq (h : HeadId) (o : Offer) :
    s.bindOffer h o = (((s.setRequest o.site none).setSocket o.site { s.socket o.site with bound := some h }).bindJob h o.job
      (o.plan.legs o.site)).submit h .bound := rfl

/-- What the plan of any offer is like: one or two legs, for a request, at the level of its site or that of R68. -/
structure Offer.Sound (c : Shadow) (o : Offer) : Prop where
  legs : o.plan.legs o.site ≠ []
  few : (o.plan.legs o.site).length ≤ 4
  climb : o.job.climb c = c.above o.plan.level
  level : o.plan.level = c.sites[o.site].level ∨ o.plan.level = max c.sites[o.site].level 1

theorem State.offerFor_sound {h : HeadId} {i : Site} {o : Offer} (e : s.offerFor h i = some o) : o.Sound s.cfg := by
  obtain ⟨r, _, hs, _, hp⟩ := State.offerFor_eq_some.1 e
  obtain ⟨site, raised, plan⟩ := o
  dsimp only at hs hp
  subst hs
  rcases (State.planFor_iff _ r plan).1 hp with ⟨c, _, _, rfl⟩ | ⟨k, c, _, _, _, rfl⟩ | ⟨k, _, _, _, _, _, rfl⟩ | ⟨k, _, _, rfl⟩
  · exact ⟨by simp [Plan.legs_eq], by simp [Plan.legs_eq], rfl, .inl rfl⟩
  · exact ⟨by simp [Plan.legs_eq], by simp [Plan.legs_eq], rfl, .inl rfl⟩
  · exact ⟨by simp [Plan.legs_eq], by simp [Plan.legs_eq], rfl, .inl rfl⟩
  · exact ⟨by simp [Plan.legs_eq], by simp [Plan.legs_eq], rfl, .inr rfl⟩

theorem State.bindOffer_costs (h : HeadId) {o : Offer} (ho : o.Sound s.cfg) :
    Costs (39 + 26 * s.cfg.above o.plan.level - 26 * (s.head h).rank s.cfg) s (s.bindOffer h o) := by
  rw [State.bindOffer_eq, ← ho.climb]
  have site : Costs 0 s ((s.setRequest o.site none).setSocket o.site { s.socket o.site with bound := some h }) :=
    (State.setSocket_same_costs (s.setRequest o.site none) o.site _).after
  exact (site.then (State.bindJob_submit_costs _ h o.job _ ho.legs ho.few)).le (by rw [zero_add]; exact le_refl _)

theorem State.select_costs (h : HeadId) : Costs 0 s (s.select h) := by
  unfold State.select
  split
  · exact Costs.free s
  rename_i hr
  rw [Bool.not_eq_true', Bool.not_eq_false] at hr
  split
  · exact ((State.setHeadState_away_costs s h .stopped rfl).then (State.holdTest_costs _)).le (by omega)
  split
  · exact Costs.free s
  split
  · exact State.settle_costs s h hr
  split
  · exact State.bindSort_costs s h hr
  split
  · rename_i o e
    refine (State.bindOffer_costs s h (State.offerFor_sound s (State.bestOffer_leads e).1)).le ?_
    have := s.cfg.above_le o.plan.level
    rw [HeadRecord.rank_resting (State.isResting_iff.1 hr)]
    omega
  · exact State.selectSupply_costs s h hr

theorem State.selectResting_costs : Costs 0 s s.selectResting := by
  unfold State.selectResting
  split
  · exact ((State.select_costs _ _).after.then (State.select_costs _ _)).le (by omega)
  · exact State.select_costs s .a
  · exact State.select_costs s .b
  · exact Costs.free s

theorem State.selectEntered_costs (i : Site) : Costs 0 s (s.selectEntered i) := by
  unfold State.selectEntered
  split
  · exact ((State.select_costs s _).then (State.select_costs _ _)).le (by omega)
  · exact State.selectResting_costs s

theorem State.withdraw_shadow (h : HeadId) (d : List Leg) : (s.withdraw h d).shadow = s.shadow :=
  (State.withdraw_frees s h d).shadow

/-- A preemption lifts the job above its site's level, which pays for the withdrawal and the new submission (R72). -/
theorem State.preempt_costs {h : HeadId} {i : Site} {o : Offer} (e : s.preemptOffer h i = some o) : Costs 0 s (s.preempt h o) := by
  obtain ⟨j, hb, hj, hk, ho, hlt⟩ := (State.preemptOffer_iff s h i o).1 e
  have sound := State.offerFor_sound s ho
  have cfg : (s.withdraw h (s.head h).legs).cfg = s.cfg := by rw [State.cfg, State.withdraw_shadow]; rfl
  have climb : j.climb s.cfg = s.cfg.above j.level := by
    unfold Job.climb
    rcases hk with hk | hk | hk <;> rw [hk]
  have rank : ((s.withdraw h (s.head h).legs).head h).rank s.cfg = 1 + s.cfg.above j.level := by
    rw [State.withdraw_head, HeadRecord.rank_bound (.inl hb), hj, Option.map_some, Option.getD_some, climb]
  have above : s.cfg.above o.plan.level < s.cfg.above j.level :=
    Shadow.above_lt (i := o.site) (by have := sound.level; omega) (by have := sound.level; omega)
  refine Costs.of_fewLegs fun hf => ?_
  have bound := State.bindOffer_costs (s.withdraw h (s.head h).legs) h (by rw [cfg]; exact sound)
  rw [cfg, rank] at bound
  rw [State.preempt_eq]
  refine (((State.withdraw_costs s h (s.head h).legs).then bound).then (State.reroute_costs _)).le ?_
  have := hf h
  push_cast
  omega

theorem State.considerPreemption_costs (i : Site) : Costs 0 s (s.considerPreemption i) := by
  unfold State.considerPreemption
  split
  · split
    · exact Costs.free s
    · rename_i e _; exact State.preempt_costs s e
    · rename_i e; exact State.preempt_costs s e
    · rename_i ea eb
      split
      · exact State.preempt_costs s ea
      · exact State.preempt_costs s eb
  · exact Costs.free s

theorem State.requestEntered_costs (i : Site) : Costs 0 s (s.requestEntered i) := by
  unfold State.requestEntered
  split
  · exact Costs.free s
  · exact ((State.selectEntered_costs s i).then (State.considerPreemption_costs _ i)).le (by omega)

/-! ## A job's course -/

theorem State.restAfterJob_costs (h : HeadId) : Costs 884 s (s.restAfterJob h) := by
  unfold State.restAfterJob
  split
  · exact ((State.setHeadState_any_costs s h .idle).then (State.select_costs _ h)).le (by omega)
  · exact ((State.setHeadState_away_costs s h .stopped rfl).then (State.holdTest_costs _)).le (by omega)

theorem State.endJob_costs (h : HeadId) : Costs 892 s (s.endJob h) := by
  have dropped : Costs 0 s (s.setHead h { s.head h with job := none, legs := [] }) :=
    State.setHead_le_costs s h _ (fun _ => by simp) (HeadRecord.rank_jobless rfl rfl)
  exact ((dropped.then (State.reroute_costs _)).then (State.restAfterJob_costs _ h)).le (by omega)

theorem State.dissolveAtEnd_costs (h : HeadId) (d : List Leg) (hd : d.length ≤ 4) : Costs 897 s (s.dissolveAtEnd h d) :=
  ((State.dissolve_costs s h d [] hd (by simp)).then (State.restAfterJob_costs _ h)).le (by omega)

theorem State.nextLeg_costs (h : HeadId) (l : Leg) : Costs 897 s (s.nextLeg h l) := by
  have one : Costs 0 s (s.setHead h { s.head h with legs := [l] }) := State.setHead_same_costs s h _ fun _ => by simp
  exact ((one.then (State.setHeadState_any_costs _ h .railWait)).then
    (State.submit_costs _ h rfl (by rw [State.head_setHead_self]; simp))).le (by omega)

theorem State.feedNext_costs (h : HeadId) (n : Nat) : Costs 897 s (s.feedNext h n) := by
  unfold State.feedNext
  split
  · exact (State.endJob_costs s h).le (by omega)
  · simp only
    split
    · rename_i e
      exact (((State.evaluateSupply_costs s).then (State.feedLeg_costs _ h e)).then (State.nextLeg_costs _ h _)).le (by omega)
    · exact ((State.evaluateSupply_costs s).then (State.endJob_costs _ h)).le (by omega)

/-- Any change of a head's record within 4 legs. -/
theorem State.setHead_any_costs (h : HeadId) (r : HeadRecord) (hl : (s.head h).legs.length ≤ 4 → r.legs.length ≤ 4) :
    Costs 884 s (s.setHead h r) :=
  (State.setHead_costs s h r hl).le (by have := r.rank_le s.cfg; omega)

theorem State.sortNext_costs (h : HeadId) (j : Job) : Costs 1781 s (s.sortNext h j) := by
  obtain ⟨cost, _⟩ := State.sortLeg_costs s h j.taken 4 []
  unfold State.sortNext
  split
  · rename_i t u l e
    rw [e] at cost
    exact ((cost.then (State.setHead_any_costs t h { t.head h with job := some { j with taken := j.taken ++ [u] } } id)).then
      (State.nextLeg_costs _ h l)).le (by omega)
  · rename_i t e
    rw [e] at cost
    exact (cost.then (State.endJob_costs t h)).le (by omega)

theorem State.legEnded_costs (h : HeadId) (ok : Bool) : Costs 1781 s (s.legEnded h ok) := by
  refine Costs.of_fewLegs fun hf => ?_
  have few := hf h
  have tail : (s.head h).legs.tail.length ≤ 4 := by rw [List.length_tail]; omega
  unfold State.legEnded
  simp only
  split
  · exact Costs.free s
  rename_i j hj
  have there : Costs 0 s (s.setHead h { s.head h with
      job := some { j with legsDone := j.legsDone + 1 }, legs := (s.head h).legs.tail }) := by
    refine State.setHead_le_costs s h _ (fun _ => tail) (le_of_eq ?_)
    unfold HeadRecord.rank
    rw [hj]
    rfl
  have onward : ∀ {u : State}, Costs 897 (s.setHead h { s.head h with
      job := some { j with legsDone := j.legsDone + 1 }, legs := (s.head h).legs.tail }) u → Costs 1781 s u :=
    fun k => (there.then k).le (by omega)
  split
  · exact onward (State.dissolveAtEnd_costs _ h _ tail)
  · split
    · exact onward (State.feedNext_costs _ h _)
    · exact (there.then (State.sortNext_costs _ h _)).le (by omega)
    · split
      · split
        · exact onward (State.nextLeg_costs _ h _)
        · exact onward ((State.endJob_costs _ h).le (by omega))
      · exact onward ((State.endJob_costs _ h).le (by omega))
    all_goals exact onward ((State.endJob_costs _ h).le (by omega))

theorem State.startAct_costs (h : HeadId) (k : Nozzle) (a : Action) : Costs 0 s (s.startAct h k a) :=
  (State.setHeadState_away_costs (s.sendAct h k a 1) h .acting rfl).after

theorem State.legArrived_costs (h : HeadId) : Costs 897 s (s.legArrived h) := by
  refine Costs.of_fewLegs fun hf => ?_
  have few := hf h
  unfold State.legArrived
  split
  · exact Costs.free s
  · rename_i l rest e
    rw [e] at few
    split
    · exact (State.startAct_costs s h _ _).le (by omega)
    · split
      · exact State.dissolveAtEnd_costs s h _ few
      · split
        · split
          · exact (State.startAct_costs s h _ _).le (by omega)
          · split
            · exact (State.setHeadState_away_costs s h .socketWait rfl).le (by omega)
            · exact State.dissolveAtEnd_costs s h _ few
        · exact (State.startAct_costs s h _ _).le (by omega)
    · exact (State.endJob_costs s h).le (by omega)

theorem State.travelEnded_costs (h : HeadId) (x y : Nat) : Costs 897 s (s.travelEnded h x y) :=
  have moved : ∀ u : State, Costs 0 u (u.setHead h { u.head h with x := x, y := y }) := fun u => State.setHead_same_costs u h _ id
  ((((State.regrant_costs (s.setReserved h (some { lo := x, hi := x })) h.other).after.then (moved _)).then
    (State.holdTest_costs _)).then (State.legArrived_costs _ h)).le (by omega)

theorem State.takeArrived_costs (h : HeadId) : Costs 897 s (s.takeArrived h) := by
  unfold State.takeArrived
  split
  · simp only
    split
    · exact ((State.setHead_same_costs (s.setCommand h .empty) h _ fun _ => by simp).after).le (by omega)
    · exact (State.travelEnded_costs (s.setCommand h .empty) h _ _).after
  · exact Costs.free s

/-! ## Hold, halt and CLOSE -/

theorem State.holdHead_costs (h : HeadId) : Costs 897 s (s.holdHead h) := by
  unfold State.holdHead
  split
  iterate 2 exact ((State.setHeadState_away_costs s h .stopped rfl).then (State.holdTest_costs _)).le (by omega)
  iterate 3 exact ((State.dissolve_own_costs s h).then (State.restAfterJob_costs _ h)).le (by omega)
  all_goals exact Costs.free s

theorem State.enterHolding_costs (auto : Bool) : Costs 1794 s (s.enterHolding auto) := by
  unfold State.enterHolding
  simp only
  have flagged : Costs 0 s (if auto then (s.setDevice .holding).setFlag .state else s.setDevice .holding) := by
    split
    · exact (State.setFlag_costs _ .state).after
    · exact Costs.of_same
  exact (((flagged.then (State.holdHead_costs _ .a)).then (State.holdHead_costs _ .b)).then (State.holdTest_costs _)).le (by omega)

theorem State.haltHead_costs (h : HeadId) : Costs 13 s (s.haltHead h) := by
  refine Costs.of_fewLegs fun hf => ?_
  have few := hf h
  unfold State.haltHead
  simp only
  refine ((State.dissolve_costs s h _ _ ?_ ?_).then (State.setHeadState_away_costs _ h .stopped rfl)).le (by omega)
  · split
    · rw [List.length_tail]; omega
    · exact few
  · split
    · rw [List.length_take]; omega
    · simp

theorem State.enterHalted_costs : Costs 26 s s.enterHalted := by
  rw [State.enterHalted_eq]
  have halting : Costs 0 s s.halting :=
    ((State.setFlag_costs { s with control := { s.control with state := .halted, holdAck := false } } .state).after.then
      (Costs.of_same (n := 0))).le (by omega)
  exact ((halting.then (State.haltHead_costs _ .a)).then (State.haltHead_costs _ .b)).le (by omega)

theorem State.closeHead_costs (f : FrameId) (h : HeadId) : Costs 898 s (s.closeHead f h) := by
  unfold State.closeHead
  simp only
  split
  · exact (((State.dissolve_own_costs s h).then (State.setHeadState_any_costs _ h .idle)).then
      (State.push_one_costs _ (.selectHead h))).le (by omega)
  · exact Costs.free s

theorem State.closeFrame_costs (f : FrameId) : Costs 1797 s (s.closeFrame f) := by
  unfold State.closeFrame
  split
  · exact (((State.closeHead_costs _ f .a).after.then (State.closeHead_costs _ f .b)).then (State.closedTest_costs _ f)).le (by omega)
  · exact Costs.free s

/-! ## The host's writes -/

theorem State.refuseFrameWrite_costs (f : FrameId) : Costs 0 s (s.refuseFrameWrite f) := by
  unfold State.refuseFrameWrite
  simp only
  split
  · exact Costs.of_same
  · exact (State.raise_costs _ _).after

theorem State.frameWrite_costs (f : FrameId) (narrow : Bool) (v : Word) : Costs 1797 s (s.frameWrite f narrow v) := by
  have refused : Costs 1797 s (s.refuseFrameWrite f) := (State.refuseFrameWrite_costs s f).le (by omega)
  unfold State.frameWrite
  simp only
  split
  · exact refused
  split
  · exact Costs.free s
  split
  · unfold State.acceptPosted
    simp only
    split
    · exact Costs.of_same
    · exact ((State.takePosted_costs _ f).after).le (by omega)
  split
  · unfold State.acceptClose
    simp only
    split
    · exact Costs.of_same
    · exact (State.closeFrame_costs _ f).after
  split
  · exact Costs.of_same
  · exact refused

theorem State.wordWrite_costs (a : Nat) (e : BitVec 4) (v : Word) : Costs 1797 s (s.wordWrite a e v) := by
  unfold State.wordWrite
  split
  · exact Costs.free s
  · split
    · exact State.frameWrite_costs s _ _ v
    · exact (State.slotWrite_costs s _ _ v).le (by omega)
    · exact Costs.of_same

end

end Sys2Proof.Machine
end

section
set_option Elab.async false

namespace Sys2Proof.Machine

section
variable (s : State)

/-! ## Sockets -/

/-- A socket enters a state in which a timer starts, whose expiry may follow directly (R3). -/
theorem State.enterTimed_costs (i : Site) (st : SocketState) (k : TimerKind) :
    Costs (12 * st.rank - 12 * (s.socket i).state.rank + 1) s (s.enterTimed i st k) := by
  have entered := State.setSocket_costs s i { s.socket i with state := st, timer := s.newTimer i k }
  unfold State.enterTimed
  simp only
  split
  · exact (entered.then (State.pushTrailing_costs _ (.expiry i))).le (by simp [Task.weight])
  · exact entered.le (by simp)

theorem State.enterStopped_costs (i : Site) (st : SocketState) :
    Costs (12 * st.rank - 12 * (s.socket i).state.rank) s (s.enterStopped i st) :=
  State.setSocket_costs s i _

theorem State.sendStart_costs (i : Site) : Costs (25 - 12 * (s.socket i).state.rank) s (s.sendStart i) := by
  have started : ∀ u : State, Costs 0 u (u.setSocket i { u.socket i with start := u.time }) :=
    fun u => State.setSocket_same_costs u i _
  have timed := State.enterTimed_costs (State.setSocket ((s.send (.start i ((s.serialOf (s.socket i).unit).getD 0#32))).setTest i
    { isOpen := true, serial := (s.serialOf (s.socket i).unit).getD 0#32, late := .none }) i
      { s.socket i with start := s.time }) i .testing .endOfTest
  rw [State.socket_setSocket_self] at timed
  exact ((started _).after.then timed).le (by simp [SocketState.rank])

theorem State.retireCheck_costs (i : Site) : Costs 9 s (s.retireCheck i) := by
  unfold State.retireCheck
  simp only
  split
  · have retired : Costs 0 s (s.setSocket i { s.socket i with stop := .retire }) := State.setSocket_same_costs s i _
    exact ((((retired.then (State.raise_costs _ _)).then (State.setFlag_costs _ .site)).then (State.updateRequests_costs _ i)).then
      (State.reportUnusable_costs _ i _)).le (by omega)
  · exact Costs.free s

theorem State.closeUnit_costs (i : Site) (b : Fin 64) (d : Nat) (l : LateMarker) : Costs 0 s (s.closeUnit i b d l) := by
  unfold State.closeUnit
  split
  · exact Costs.free s
  · exact Costs.of_same

theorem State.closeUnit_sites (i : Site) (b : Fin 64) (d : Nat) (l : LateMarker) : (s.closeUnit i b d l).sites = s.sites := by
  unfold State.closeUnit
  split <;> rfl

theorem State.closeTest_costs (i : Site) (b : Fin 64) (d : Nat) (l : LateMarker) (bad : Nat) :
    Costs (23 - 12 * (s.socket i).state.rank) s (s.closeTest i b d l bad) := by
  have closed := State.closeUnit_costs s i b d l
  have released := State.enterTimed_costs (State.send ((s.closeUnit i b d l).setTest i
    { (s.closeUnit i b d l).test i with isOpen := false, late := l }) (.release i)) i .releasing .release
  have socket : ((State.send ((s.closeUnit i b d l).setTest i
    { (s.closeUnit i b d l).test i with isOpen := false, late := l }) (.release i)).socket i) = s.socket i := by
    rw [State.socket, State.socket, ← State.closeUnit_sites s i b d l]; rfl
  rw [socket] at released
  have counted : ∀ u : State, Costs 0 u (u.setSocket i { u.socket i with bad := bad }) := fun u => State.setSocket_same_costs u i _
  exact ((((closed.then released.after).then (counted _)).then (State.updateRequests_costs _ i)).then
    (State.retireCheck_costs _ i)).le (by simp [SocketState.rank]; omega)

theorem State.siteDrop_costs (i : Site) : Costs (23 - 12 * (s.socket i).state.rank) s (s.siteDrop i) :=
  (((State.closeTest_costs s i _ _ _ _).then (State.raise_costs _ _)).then (State.setFlag_costs _ .site)).le (by omega)

theorem State.eotExpired_costs (i : Site) : Costs (23 - 12 * (s.socket i).state.rank) s (s.eotExpired i) :=
  (((State.closeTest_costs s i _ _ _ _).then (State.raise_costs _ _)).then (State.setFlag_costs _ .site)).le (by omega)

theorem State.lateEnd_costs (i : Site) (b : Byte) : Costs 0 s (s.lateEnd i b) := by
  have noted : ∀ (n : Notice) (r : TestRecord), Costs 0 s ((s.raise n).setTest i r) := fun n r =>
    ((State.raise_costs s n).then (Costs.of_same (n := 0))).le (by omega)
  unfold State.lateEnd
  simp only
  split
  · exact State.raise_costs s _
  · exact noted _ _
  · exact noted _ _

theorem State.takeEnd_costs (i : Site) (b : Byte) : Costs 25 s (s.takeEnd i b) := by
  unfold State.takeEnd
  split
  · exact (State.closeTest_costs s i _ _ _ _).le (by omega)
  · exact (State.lateEnd_costs s i b).le (by omega)

theorem State.takeReady_costs (i : Site) (up : Bool) : Costs 25 s (s.takeReady i up) := by
  have told : Costs 0 s (s.setSocket i { s.socket i with ready := up }) := State.setSocket_same_costs s i _
  unfold State.takeReady
  simp only
  split
  · split
    · exact (told.then (State.sendStart_costs _ i)).le (by omega)
    · exact told.le (by omega)
  · exact (told.then (State.siteDrop_costs _ i)).le (by omega)
  · exact (told.then (State.updateRequests_costs _ i)).le (by omega)
  · exact told.le (by omega)

theorem State.contactExpired_costs (i : Site) (hs : (s.socket i).state = .seated) : Costs 0 s (s.contactExpired i) := by
  have expired : Costs 0 s (s.setSocket i { s.socket i with timer := .expired }) := State.setSocket_same_costs s i _
  unfold State.contactExpired
  simp only
  split
  · refine (expired.then (State.sendStart_costs _ i)).le ?_
    rw [State.socket_setSocket_self]
    simp [hs, SocketState.rank]
  · exact expired

theorem State.releaseExpired_costs (i : Site) (hs : (s.socket i).state = .releasing) : Costs 0 s (s.releaseExpired i) :=
  ((State.enterStopped_costs s i .unloadReady).then (State.updateRequests_costs _ i)).le (by rw [hs]; simp [SocketState.rank])

theorem State.socketClear_costs (i : Site) (h : HeadId) : Costs 0 s (s.socketClear i h) := by
  unfold State.socketClear
  split
  · split
    · split
      · exact State.startAct_costs s h _ _
      · exact Costs.free s
    · exact Costs.free s
  · exact Costs.free s

theorem StopPending.target_rank {p : StopPending} {st : SocketState} (h : p.target = some st) : st.rank = 0 := by
  cases p <;> cases h <;> rfl

theorem State.recoveryExpired_costs (i : Site) (hs : (s.socket i).state = .recovering) : Costs 0 s (s.recoveryExpired i) := by
  have leave : ∀ st : SocketState, st.rank = 0 → Costs (-12) s (s.enterStopped i st) := fun st h =>
    (State.enterStopped_costs s i st).le (by rw [hs, h]; simp [SocketState.rank])
  unfold State.recoveryExpired
  split
  · rename_i st ht
    have cleared : ∀ u : State, Costs 0 u (u.setSocket i { u.socket i with stop := .none }) :=
      fun u => State.setSocket_same_costs u i _
    exact (((leave st (StopPending.target_rank ht)).then (cleared _)).then (State.updateRequests_costs _ i)).le (by omega)
  · simp only
    split
    · exact ((leave .empty rfl).then (State.socketClear_costs _ i _)).le (by omega)
    · exact ((leave .empty rfl).then (State.updateRequests_costs _ i)).le (by omega)

/-- The timers that an expiry starts are paid by the socket. -/
theorem State.timerExpired_costs (i : Site) : Costs 0 s (s.timerExpired i) := by
  unfold State.timerExpired
  split
  · rename_i hs; exact (State.contactExpired_costs (s.reach _) i hs).after
  · rename_i hs
    refine ((State.eotExpired_costs _ i).after).le ?_
    rw [show (State.socket (s.reach _) i).state = .testing from hs]
    simp [SocketState.rank]
  · rename_i hs; exact (State.releaseExpired_costs (s.reach _) i hs).after
  · rename_i hs; exact (State.recoveryExpired_costs (s.reach _) i hs).after
  · exact Costs.free s

theorem State.timerEvent_costs (i : Site) (k : TimerKind) : Costs 0 s (s.timerEvent i k) := by
  unfold State.timerEvent
  split
  · split
    · exact State.timerExpired_costs s i
    · exact Costs.free s
  · exact Costs.free s

theorem State.placedAtSocket_costs (i : Site) (u : Handle) : Costs 38 s (s.placedAtSocket i u) := by
  have held : Costs 0 s (s.setSocket i { s.socket i with unit := some u }) := State.setSocket_same_costs s i _
  exact (((held.then (State.enterTimed_costs (State.send _ (.contact i)) i .seated .contact).after).then
    (State.unbind_costs _ i))).le (by simp [SocketState.rank]; omega)

theorem State.pickedAtSocket_costs (i : Site) : Costs 14 s (s.pickedAtSocket i) := by
  have emptied : Costs 0 s (s.setSocket i { s.socket i with unit := none }) := State.setSocket_same_costs s i _
  have recovers : Costs 13 s ((s.setSocket i { s.socket i with unit := none }).enterTimed i .recovering .recovery) :=
    (emptied.then (State.enterTimed_costs _ i .recovering .recovery)).le (by simp [SocketState.rank]; omega)
  unfold State.pickedAtSocket
  simp only
  split
  · exact recovers.le (by omega)
  · exact (recovers.then (State.unbind_costs _ i)).le (by omega)

theorem State.jam_costs (i : Site) (h : HeadId) (k : Nozzle) (serial : Option Word) : Costs 9 s (s.jam i h k serial) := by
  have jammed : Costs 0 s (s.enterStopped i .jammed) := (State.enterStopped_costs s i .jammed).le (by simp [SocketState.rank])
  exact ((((jammed.then (State.unbind_costs _ i)).then (State.raise_costs _ _)).then (State.setFlag_costs _ .site)).then
    (State.reportUnusable_costs _ i _)).le (by omega)

/-! ## Reports to their owners -/

theorem State.inputPicked_costs (h : HeadId) (k : Nozzle) (f : FrameId) (i : Nat) : Costs 9 s (s.inputPicked h k f i) := by
  unfold State.inputPicked
  split
  · exact Costs.free s
  · exact Costs.free s
  · exact ((((State.createUnit_costs s _ _ _ i h k).then (State.setSlot_costs _ h k _)).then (State.writeResult_costs _ f i _)).then
      (State.reroute_costs _)).le (by omega)

theorem State.stripPicked_costs (h : HeadId) (k : Nozzle) (p : Fin 16) : Costs 1 s (s.stripPicked h k p) := by
  unfold State.stripPicked
  split
  · exact Costs.free s
  · exact Costs.free s
  · exact ((State.setSlot_costs s h k _).then (State.dropEntry_costs _ p).after).le (by omega)

theorem State.stripPickFailed_costs (p : Fin 16) : Costs 1 s (s.stripPickFailed p) := by
  unfold State.stripPickFailed
  simp only
  split
  · exact Costs.of_same
  · exact ((State.declareLost_costs s _ _).then (Costs.of_same (n := 0))).le (by omega)

theorem State.socketPicked_costs (h : HeadId) (k : Nozzle) (i : Site) : Costs 14 s (s.socketPicked h k i) := by
  unfold State.socketPicked
  split
  · simp only
    split
    · exact State.pickedAtSocket_costs s i
    · exact ((State.setSlot_costs s h k _).then (State.pickedAtSocket_costs _ i).after).le (by omega)
  · exact Costs.free s

theorem State.socketPlaced_costs (h : HeadId) (k : Nozzle) (i : Site) (u : Handle) : Costs 38 s (s.socketPlaced h k i u) := by
  unfold State.socketPlaced
  split
  · exact ((State.setSlot_costs s h k none).then (State.placedAtSocket_costs _ i u).after).le (by omega)
  · exact Costs.free s

theorem State.stripPlaced_costs (h : HeadId) (k : Nozzle) (p : Fin 16) (u : Handle) : Costs 1 s (s.stripPlaced h k p u) := by
  unfold State.stripPlaced
  split
  · exact ((State.setSlot_costs s h k none).then (State.push_one_costs _ .selectIdle).after).le (by omega)
  · exact Costs.free s

theorem State.outputPlaced_costs (h : HeadId) (k : Nozzle) (f : FrameId) (i : Nat) (u : Handle) :
    Costs 1 s (s.outputPlaced h k f i u) := by
  unfold State.outputPlaced
  split
  · exact Costs.free s
  · split
    · exact (((State.writeOutcome_costs s f i _).then (State.freeUnit_costs _ u)).then (State.setSlot_costs _ h k none)).le (by omega)
    · exact Costs.free s

theorem State.report_costs (h : HeadId) (l : Leg) (k : Nozzle) (ok : Bool) : Costs 38 s (s.report h l k ok) := by
  unfold State.report
  split
  · split
    · exact (State.inputPicked_costs s h k _ _).le (by omega)
    · exact Costs.free s
  · split
    · exact (State.writeResult_costs s _ _ _).le (by omega)
    · exact Costs.free s
  · exact (State.stripPicked_costs s h k _).le (by omega)
  · exact (State.stripPickFailed_costs s _).le (by omega)
  · exact (State.socketPicked_costs s h k _).le (by omega)
  · split
    · exact (State.jam_costs s _ h k _).le (by omega)
    · exact Costs.free s
  · split
    · exact State.socketPlaced_costs s h k _ _
    · exact Costs.free s
  · split
    · exact (State.jam_costs s _ h k _).le (by omega)
    · exact Costs.free s
  · split
    · exact (State.stripPlaced_costs s h k _ _).le (by omega)
    · exact Costs.free s
  · exact ((State.raise_costs _ _).after).le (by omega)
  · split
    · exact (State.outputPlaced_costs s h k _ _ _).le (by omega)
    · exact Costs.free s
  · split
    · exact ((State.writeResult_costs s _ _ _).then (State.raise_costs _ _)).le (by omega)
    · exact Costs.free s
  · exact Costs.free s

theorem State.actionEnded_costs (h : HeadId) (k : Nozzle) (ok : Bool) : Costs 2038 s (s.actionEnded h k ok) := by
  refine Costs.of_fewLegs fun hf => ?_
  have few := hf h
  unfold State.actionEnded
  split
  · exact Costs.free s
  · rename_i l rest e
    rw [e, List.length_cons] at few
    have reported := (State.report_costs s h l k ok).then (State.holdTest_costs _)
    simp only
    split
    · exact (reported.then (State.setHead_same_costs _ h _ fun _ => show rest.length ≤ 4 by omega)).le (by omega)
    · exact (reported.then (State.push_costs _ (.legEnd h ok))).le (by simp [Task.weight])

theorem State.takeActDone_costs (h : HeadId) (k : Nozzle) (v : Bool) : Costs 2038 s (s.takeActDone h k v) := by
  unfold State.takeActDone
  split
  · split
    · unfold State.judgeAttempt
      split
      · exact (State.actionEnded_costs _ h k true).after
      · split
        · exact Costs.of_same
        · exact (State.actionEnded_costs _ h k false).after
    · exact Costs.free s
  · exact Costs.free s

/-! ## Losses, faults and watchdogs -/

theorem State.takeVacuumLost_costs (h : HeadId) (k : Nozzle) : Costs 1795 s (s.takeVacuumLost h k) := by
  unfold State.takeVacuumLost
  split
  · exact Costs.free s
  · rename_i u _
    split
    · exact Costs.free s
    · have lost := (State.declareLost_costs s u .vacuumLost).then (State.setSlot_costs _ h k none)
      simp only
      split
      · exact (lost.then (State.enterHolding_costs _ true)).le (by omega)
      · exact lost.le (by omega)

theorem State.takeDriveFault_costs (f : FaultTarget) : Costs 26 s (s.takeDriveFault f) := by
  unfold State.takeDriveFault
  split
  · exact Costs.free s
  · simp only
    split
    · exact (State.raise_costs s _).le (by omega)
    · exact ((State.raise_costs s _).then (State.enterHalted_costs _)).le (by omega)

theorem State.travelTimeout_costs (h : HeadId) : Costs 26 s (s.travelTimeout h) := by
  unfold State.travelTimeout
  split
  · exact ((State.raise_costs _ _).after.then (State.enterHalted_costs _)).le (by omega)
  · exact Costs.free s

theorem State.actionTimeout_costs (h : HeadId) : Costs 26 s (s.actionTimeout h) := by
  unfold State.actionTimeout
  split
  · exact ((State.raise_costs _ _).after.then (State.enterHalted_costs _)).le (by omega)
  · exact Costs.free s

end

end Sys2Proof.Machine
end

section
set_option Elab.async false

namespace Sys2Proof.Machine

section
variable (s : State)

/-! ## The configuration loader -/

/-- Heads at rest with no leg, no socket in a cycle: only the lines of work count. -/
theorem Costs.of_fresh {s t : State} (hh : ∀ h : HeadId, (t.head h).state = .stopped ∧ (t.head h).legs = [])
    (hs : ∀ i : Site, (t.socket i).state.rank = 0) (hw : weigh t.agenda + weigh t.trailing ≤ weigh s.agenda + weigh s.trailing) :
    Costs 0 s t := by
  have rank : ∀ h : HeadId, (t.head h).rank t.cfg = 0 := fun h => HeadRecord.rank_away (by rw [(hh h).1]; rfl)
  have ranks : t.socketRanks = 0 := Finset.sum_eq_zero fun i _ => hs i
  refine fun _ => ⟨fun h => by rw [(hh h).2]; exact Nat.zero_le 4, ?_⟩
  rw [State.load, State.load, rank, rank, ranks]
  push_cast
  omega

/-- Any change of the copies alone. -/
theorem Costs.of_shadow (c : Option Shadow) : Costs 1768 s { s with shadow := c } := by
  refine fun hf => ⟨hf, ?_⟩
  have a := HeadRecord.rank_le (State.cfg { s with shadow := c }) (s.head .a)
  have b := HeadRecord.rank_le (State.cfg { s with shadow := c }) (s.head .b)
  have e : State.load { s with shadow := c } = weigh s.agenda + weigh s.trailing +
      26 * ((s.head .a).rank (State.cfg { s with shadow := c }) + (s.head .b).rank (State.cfg { s with shadow := c })) +
      12 * s.socketRanks := rfl
  rw [e, State.load]
  push_cast
  omega

theorem State.rejectStale_costs (f : FrameId) : Costs 0 s (s.rejectStale f) := by
  unfold State.rejectStale
  simp only
  split
  · exact Costs.of_same
  · exact Costs.free s

theorem State.armFrames_costs : Costs 24 s s.armFrames := by
  have stale := Costs.foldl (fun s (f : FrameId) => s.rejectStale f) 0 (fun s f => State.rejectStale_costs s f) allFrames s
  unfold State.armFrames
  simp only
  split
  · exact ((stale.then (State.takeAllPosted_costs _)).then (State.setFlag_costs _ .tray)).le (by omega)
  · exact (stale.then (State.takeAllPosted_costs _)).le (by omega)

theorem initialSocket_rank (c : SiteConfig) : (initialSocket c).state.rank = 0 := by
  unfold initialSocket
  cases c.lockout <;> cases c.enable <;> rfl

theorem State.completeArm_costs (c : Shadow) (pa pb : Point) : Costs 24 s (s.completeArm c pa pb) := by
  obtain ⟨u, e, heads, sockets, agenda, trailing⟩ : ∃ u : State, s.completeArm c pa pb = u.armFrames ∧
      u.planner.heads = ⟨initialHead pa, initialHead pb⟩ ∧
      u.sites.sockets = Vector.ofFn (fun i : Fin 32 => initialSocket c.sites[i]) ∧ u.agenda = s.agenda ∧
      u.trailing = s.trailing := ⟨_, rfl, rfl, rfl, rfl, rfl⟩
  rw [e]
  refine (Costs.then (Costs.of_fresh (fun h => ?_) (fun i => ?_) (by rw [agenda, trailing])) (State.armFrames_costs u)).le (by omega)
  · rw [State.head, heads]
    cases h <;> exact ⟨rfl, rfl⟩
  · simp only [State.socket, sockets, Fin.getElem_fin, Vector.getElem_ofFn]
    exact initialSocket_rank _

theorem State.refuseArm_costs (n : Nat) (o : Option Nat) : Costs 24 s (s.refuseArm n o) := by
  unfold State.refuseArm
  cases o <;> exact (State.takeAllPosted_costs _).after

theorem State.startArm_costs : Costs 24 s s.startArm := by
  unfold State.startArm
  simp only
  split
  · exact (State.refuseArm_costs _ _ _).after
  · exact Costs.of_same

theorem State.takePosition_costs (h : HeadId) (p : Point) : Costs 24 s (s.takePosition h p) := by
  unfold State.takePosition
  split
  · exact Costs.free s
  · exact Costs.free s
  · split
    · exact Costs.free s
    · simp only
      split
      · split
        · exact State.completeArm_costs s _ _ _
        · exact State.refuseArm_costs s _ _
      · exact Costs.of_same

theorem State.positionWaitOver_costs : Costs 24 s s.positionWaitOver := by
  unfold State.positionWaitOver
  split
  · exact Costs.free s
  · exact (State.refuseArm_costs _ _ _).after

/-- A socket put in a state in which no more timers may start than before. -/
theorem State.setSocket_le_costs (i : Site) (r : Socket) (h : r.state.rank ≤ (s.socket i).state.rank) :
    Costs 0 s (s.setSocket i r) :=
  (State.setSocket_costs s i r).le (by omega)

theorem State.editLockout_costs (i : Site) : Costs 0 s (s.editLockout i) := by
  unfold State.editLockout
  simp only
  split
  · split
    iterate 4 exact State.setSocket_le_costs s i _ (Nat.zero_le _)
    all_goals exact State.setSocket_same_costs s i _
  · exact Costs.free s

theorem State.editReinstate_costs (i : Site) (flag : Bool) : Costs 0 s (s.editReinstate i flag) := by
  unfold State.editReinstate
  simp only
  split
  · exact State.setSocket_le_costs s i _ (Nat.zero_le _)
  · exact Costs.free s

theorem State.editJamClear_costs (i : Site) (flag : Bool) : Costs 14 s (s.editJamClear i flag) := by
  have recovers : ∀ u : State, Costs 13 u ((u.setSocket i { u.socket i with unit := none }).enterTimed i .recovering .recovery) :=
    fun u => by
      have emptied : Costs 0 u (u.setSocket i { u.socket i with unit := none }) := State.setSocket_same_costs u i _
      exact (emptied.then (State.enterTimed_costs _ i .recovering .recovery)).le (by simp [SocketState.rank]; omega)
  unfold State.editJamClear
  split
  · simp only
    split
    · exact (recovers s).le (by omega)
    · exact ((State.declareLost_costs s _ _).then (recovers _)).le (by omega)
  · exact Costs.free s

theorem State.editEnable_costs (i : Site) : Costs 0 s (s.editEnable i) := by
  unfold State.editEnable
  simp only
  split
  · exact Costs.free s
  · split
    iterate 2 exact State.setSocket_le_costs s i _ (Nat.zero_le _)
    iterate 4 exact Costs.free s
    all_goals
      split
      · exact State.setSocket_same_costs s i _
      · exact Costs.free s

theorem State.editSite_costs (i : Site) (reinstate jamClear : Bool) : Costs 15 s (s.editSite i reinstate jamClear) :=
  (((((State.editLockout_costs s i).then (State.editReinstate_costs _ i _)).then (State.editJamClear_costs _ i _)).then
    (State.editEnable_costs _ i)).then (State.updateRequests_costs _ i)).le (by omega)

theorem State.writeBack_costs (i : Site) (w : Word) : Costs 0 s (s.writeBack i w) := by
  unfold State.writeBack
  split
  · exact Costs.of_same
  · exact Costs.free s

theorem State.takeEdits_costs : Costs 480 s s.takeEdits := by
  have edits := Costs.foldl (fun u (i : Site) => u.editSite i ((actionFlags s.mem i).getLsbD 0) ((actionFlags s.mem i).getLsbD 1))
    15 (fun u i => State.editSite_costs u i _ _) allSites s
  have back := fun u => Costs.foldl (fun u (i : Site) => u.writeBack i (actionFlags s.mem i)) 0
    (fun u i => State.writeBack_costs u i _) allSites u
  exact (edits.then (back _)).le (by simp [allSites])

theorem State.runFromHeld_costs : Costs 4256 s s.runFromHeld := by
  unfold State.runFromHeld
  split
  · exact Costs.of_same
  · have read := (Costs.of_shadow s (some (rereadInto s.cfg s.mem))).then (State.takeEdits_costs
      (State.setResult { s with shadow := some (rereadInto s.cfg s.mem) } 0)).after
    simp only
    split
    · exact ((read.then (State.reroute_costs _)).then (State.push_costs _ .runEntry)).le (by simp [Task.weight])
    · exact (read.then (State.push_costs _ .runEntry)).le (by simp [Task.weight])

theorem State.wakeHead_costs (h : HeadId) : Costs 884 s (s.wakeHead h) := by
  unfold State.wakeHead
  split
  · exact State.setHeadState_any_costs s h .idle
  · exact Costs.free s

theorem State.enterFromHeld_costs : Costs 1778 s s.enterFromHeld := by
  unfold State.enterFromHeld
  split
  · have entered : Costs 8 s (if s.control.drainLatch then
        State.reroute { s with control := { s.control with
          state := if s.control.drainLatch then .draining else .run, holdAck := false } }
        else { s with control := { s.control with
          state := if s.control.drainLatch then .draining else .run, holdAck := false } }) := by
      split
      · exact (State.reroute_costs _).after
      · exact Costs.of_same
    exact ((((entered.then (State.wakeHead_costs _ .a)).then (State.wakeHead_costs _ .b)).then
      (State.push_one_costs _ .selectIdle)).then (State.push_one_costs _ .drainTest)).le (by omega)
  · exact Costs.free s

/-! ## Requests -/

theorem State.refuseRequest_costs : Costs 0 s s.refuseRequest := by
  unfold State.refuseRequest
  split <;> exact Costs.of_same

theorem State.requestArm_costs : Costs 24 s s.requestArm := by
  unfold State.requestArm
  split
  · exact State.startArm_costs s
  · exact (State.refuseRequest_costs s).le (by omega)

theorem State.requestRun_costs : Costs 4256 s s.requestRun := by
  unfold State.requestRun
  split
  · exact State.runFromHeld_costs s
  · exact ((State.push_one_costs _ .selectIdle).after).le (by omega)
  all_goals exact (State.refuseRequest_costs s).le (by omega)

theorem State.requestHold_costs : Costs 1794 s s.requestHold := by
  unfold State.requestHold
  split
  · exact (State.enterHolding_costs _ false).after
  · exact (State.refuseRequest_costs s).le (by omega)

theorem State.requestDrain_costs : Costs 10 s s.requestDrain := by
  unfold State.requestDrain
  split
  · exact Costs.of_same
  · exact (((State.reroute_costs _).after.then (State.push_one_costs _ .selectIdle)).then
      (State.push_one_costs _ .drainTest)).le (by omega)
  all_goals exact (State.refuseRequest_costs s).le (by omega)

theorem State.softReset_costs : Costs 0 s s.softReset :=
  Costs.of_fresh (fun h => by cases h <;> exact ⟨rfl, rfl⟩)
    (fun i => by simp [State.socket, State.softReset, State.reset, Socket.reset, SocketState.rank]) (Nat.zero_le _)

theorem State.powerOn_costs : Costs 0 s s.powerOn :=
  Costs.of_fresh (fun h => by cases h <;> exact ⟨rfl, rfl⟩)
    (fun i => by simp [State.socket, State.powerOn, State.reset, Socket.reset, SocketState.rank]) (Nat.zero_le _)

theorem State.takeRequest_costs (n : Nat) : Costs 4256 s (s.takeRequest n) := by
  unfold State.takeRequest
  split
  · exact Costs.free s
  · exact (State.requestArm_costs s).le (by omega)
  · exact State.requestRun_costs s
  · exact (State.requestHold_costs s).le (by omega)
  · exact (State.requestDrain_costs s).le (by omega)
  · exact (State.softReset_costs s).le (by omega)
  · exact (State.refuseRequest_costs s).le (by omega)

theorem State.controlWrite_costs (n : Nat) (v : BitVec 3) : Costs 4256 s (s.controlWrite n v) :=
  ((State.setRegisters_costs s _).then (State.takeRequest_costs (s.setThreshold v) n)).le (by omega)

theorem State.registerWrite_costs (o : BitVec 5) (e : BitVec 4) (v : Word) : Costs 4256 s (s.registerWrite o e v) := by
  unfold State.registerWrite
  split
  · split
    · exact State.controlWrite_costs s _ _
    · exact (State.setRegisters_costs s _).le (by omega)
    · exact (State.setRegisters_costs s _).le (by omega)
    · exact Costs.free s
  · exact Costs.free s

/-! ## The follow-up work and the commands -/

/-- A task adds less than its own weight. -/
theorem State.runTask_costs (x : Task) : Costs (x.weight - 1) s (s.runTask x) := by
  cases x with
  | entered i => exact State.requestEntered_costs s i
  | selectIdle => exact State.selectResting_costs s
  | selectHead h => exact State.select_costs s h
  | legEnd h ok => exact (State.legEnded_costs s h ok).le (by simp [Task.weight])
  | runEntry => exact (State.enterFromHeld_costs s).le (by simp [Task.weight])
  | drainTest => exact State.drainTest_costs s
  | expiry i => exact State.timerExpired_costs s i
  | hostWord a e v => exact (State.wordWrite_costs s a e v).le (by simp [Task.weight])

theorem Task.one_le_weight (x : Task) : 1 ≤ x.weight := by cases x <;> simp [Task.weight]

theorem Task.weight_le (x : Task) : x.weight ≤ 2000 := by cases x <;> simp [Task.weight]

theorem weigh_eq_zero {l : List Task} (h : weigh l = 0) : l = [] := by
  cases l with
  | nil => rfl
  | cons x l => rw [weigh_cons] at h; have := x.one_le_weight; omega

theorem State.load_agenda {x : Task} {rest : List Task} (h : s.agenda = x :: rest) :
    s.load = x.weight + State.load { s with agenda := rest } := by
  have e : State.load { s with agenda := rest } = weigh rest + weigh s.trailing +
    26 * ((s.head .a).rank s.cfg + (s.head .b).rank s.cfg) + 12 * s.socketRanks := rfl
  rw [e, State.load, h, weigh_cons]
  omega

theorem State.load_trailing {x : Task} {rest : List Task} (h : s.trailing = x :: rest) :
    s.load = x.weight + State.load { s with trailing := rest } := by
  have e : State.load { s with trailing := rest } = weigh s.agenda + weigh rest +
    26 * ((s.head .a).rank s.cfg + (s.head .b).rank s.cfg) + 12 * s.socketRanks := rfl
  rw [e, State.load, h, weigh_cons]
  omega

/-- Every task lowers the load, so as many tasks as the load leave none in line. -/
theorem cascade_rests (n : Nat) (s : State) (hf : s.fewLegs) (hn : s.load ≤ n) :
    (cascade n s).atRest ∧ (cascade n s).fewLegs := by
  induction n generalizing s with
  | zero =>
    have ha : weigh s.agenda = 0 := by unfold State.load at hn; omega
    have ht : weigh s.trailing = 0 := by unfold State.load at hn; omega
    exact ⟨⟨weigh_eq_zero ha, weigh_eq_zero ht⟩, hf⟩
  | succ n ih =>
    unfold cascade
    split
    · rename_i x rest e
      obtain ⟨hf', hc⟩ := State.runTask_costs { s with agenda := rest } x hf
      exact ih _ hf' (by have := s.load_agenda e; omega)
    · rename_i x rest _ e
      obtain ⟨hf', hc⟩ := State.runTask_costs { s with trailing := rest } x hf
      exact ih _ hf' (by have := s.load_trailing e; omega)
    · rename_i ha ht
      exact ⟨⟨ha, ht⟩, hf⟩

theorem State.load_of_atRest (h : s.atRest) : s.load ≤ 2920 := by
  have a := (s.head .a).rank_le s.cfg
  have b := (s.head .b).rank_le s.cfg
  have k := s.socketRanks_le
  rw [State.load, h.1, h.2, weigh_nil]
  omega

/-- An event that starts less than the bound of log entry 7 ends at rest. -/
theorem State.finish_rests {s v t : State} (hr : s.atRest) (hf : s.fewLegs) {n : Int} (c : Costs n s v)
    (hn : n ≤ 99000000 := by omega) (h : v.finish = .next t) : t.atRest ∧ t.fewLegs := by
  obtain ⟨hf', hv⟩ := c hf
  cases h
  refine cascade_rests _ v hf' ?_
  have := s.load_of_atRest hr
  have e : Config.cascadeFuel = 100000000 := rfl
  omega

/-- A host write is of at most 16384 words. -/
theorem wordTasks_weigh (offset : Nat) (bytes : List Byte) (h : offset + bytes.length ≤ Config.memorySize) :
    weigh (wordTasks offset bytes) ≤ 32768000 := by
  have len : (wordTasks offset bytes).length ≤ 16384 := by
    have e : Config.memorySize = 65536 := rfl
    unfold wordTasks
    split
    · simp
    · simp only [List.length_map, List.length_range, List.length_cons] at h ⊢
      omega
  have sum := List.sum_le_card_nsmul ((wordTasks offset bytes).map Task.weight) 2000 fun n hn => by
    obtain ⟨x, _, rfl⟩ := List.mem_map.1 hn
    exact x.weight_le
  rw [List.length_map, smul_eq_mul] at sum
  unfold weigh
  omega

end

end Sys2Proof.Machine

open Sys2Proof Sys2Proof.Machine in
/-- Settles O58: what each command starts, and what each task adds, is weighed; a task adds less than its own weight, so the
weight bounds the tasks, and it stays below the model's bound. -/
theorem restKept : Obligations.RestKept := by
  intro c s t hr hf h
  cases c with
  | ready site up =>
    refine State.finish_rests hr hf (n := 25) ?_ (by omega) h
    unfold State.fromTester
    split
    · split
      · exact Costs.free s
      · exact State.takeReady_costs s _ up
    · exact Costs.free s
  | endOfTest site bin =>
    refine State.finish_rests hr hf (n := 25) ?_ (by omega) h
    unfold State.fromTester
    split
    · split
      · exact Costs.free s
      · exact State.takeEnd_costs s _ bin
    · exact Costs.free s
  | contactExpiry i => exact State.finish_rests hr hf (State.timerEvent_costs s i _) (by omega) h
  | eotWatchdogExpiry i => exact State.finish_rests hr hf (State.timerEvent_costs s i _) (by omega) h
  | releaseExpiry i => exact State.finish_rests hr hf (State.timerEvent_costs s i _) (by omega) h
  | recoveryExpiry i => exact State.finish_rests hr hf (State.timerEvent_costs s i _) (by omega) h
  | arrived g => exact State.finish_rests hr hf (State.takeArrived_costs s g) (by omega) h
  | actDone g k v => exact State.finish_rests hr hf (State.takeActDone_costs s g k v) (by omega) h
  | position g x y => exact State.finish_rests hr hf (State.takePosition_costs s g _) (by omega) h
  | positionWaitExpiry => exact State.finish_rests hr hf (State.positionWaitOver_costs s) (by omega) h
  | vacuumLost g k => exact State.finish_rests hr hf (State.takeVacuumLost_costs s g k) (by omega) h
  | driveFault f => exact State.finish_rests hr hf (State.takeDriveFault_costs s f) (by omega) h
  | travelWatchdogExpiry g => exact State.finish_rests hr hf (State.travelTimeout_costs s g) (by omega) h
  | actionWatchdogExpiry g => exact State.finish_rests hr hf (State.actionTimeout_costs s g) (by omega) h
  | arm v => exact State.finish_rests hr hf (State.controlWrite_costs s 1 v) (by omega) h
  | run v => exact State.finish_rests hr hf (State.controlWrite_costs s 2 v) (by omega) h
  | hold v => exact State.finish_rests hr hf (State.controlWrite_costs s 3 v) (by omega) h
  | drain v => exact State.finish_rests hr hf (State.controlWrite_costs s 4 v) (by omega) h
  | reset v => exact State.finish_rests hr hf (State.controlWrite_costs s 5 v) (by omega) h
  | undefinedRequest b v => exact State.finish_rests hr hf (State.controlWrite_costs s _ v) (by omega) h
  | attentionThreshold v => exact State.finish_rests hr hf (State.controlWrite_costs s 0 v) (by omega) h
  | attentionClear v => exact State.finish_rests hr hf (State.setRegisters_costs s _) (by omega) h
  | levels v => exact State.finish_rests hr hf (State.setRegisters_costs s _) (by omega) h
  | registerWriteDropped o e v => exact State.finish_rests hr hf (State.registerWrite_costs s o e v) (by omega) h
  | powerOnReset => exact State.finish_rests hr hf (State.powerOn_costs s) (by omega) h
  | exchangeMemoryWrite o b =>
    change (if _ then _ else _) = _ at h
    split at h
    · cases h
    · next fits =>
      have words := wordTasks_weigh o.toNat b (not_lt.1 fits)
      refine State.finish_rests hr hf (n := 32768000) (Costs.of_parts _ ?_) (by omega) h
      simp only [weigh_append]
      omega
  | posted f => exact State.finish_rests hr hf (State.frameWrite_costs s f _ _) (by omega) h
  | close f => exact State.finish_rests hr hf (State.frameWrite_costs s f _ _) (by omega) h
  | frameFree f => exact State.finish_rests hr hf (State.frameWrite_costs s f _ _) (by omega) h
  | frameWriteRefused f e v =>
    refine State.finish_rests hr hf (n := 1797) ?_ (by omega) h
    split
    · exact Costs.free s
    · exact State.frameWrite_costs s f _ v
  | slotFree k => exact State.finish_rests hr hf (State.slotWrite_costs s k _ _) (by omega) h
  | slotWriteRefused k e v =>
    refine State.finish_rests hr hf (n := 2) ?_ (by omega) h
    split
    · exact Costs.free s
    · exact State.slotWrite_costs s k _ v
end

section
set_option Elab.async false

namespace Sys2Proof.Machine

/-! ## What the rail arbiter does with a leg (R79, R82 to R91) -/

section
variable {s : State} {h : HeadId}

theorem State.compatible_iff (s : State) (h : HeadId) (iv : Interval) : s.compatible h iv = true ↔
    ∀ o : Interval, s.rail.reserved.get h.other = some o →
      (h = .a → iv.hi + s.deck.separation ≤ o.lo) ∧ (h = .b → o.hi + s.deck.separation ≤ iv.lo) := by
  unfold State.compatible
  split
  · rename_i e
    simp [e]
  · rename_i o e
    simp only [e, Option.some.injEq, forall_eq']
    cases h <;> simp

theorem State.allowed_iff (s : State) (h : HeadId) (iv : Interval) : (s.working && s.compatible h iv) = true ↔
    (s.control.state = .run ∨ s.control.state = .draining) ∧
      ∀ o : Interval, s.rail.reserved.get h.other = some o →
        (h = .a → iv.hi + s.deck.separation ≤ o.lo) ∧ (h = .b → o.hi + s.deck.separation ≤ iv.lo) := by
  rw [Bool.and_eq_true, State.working_iff, State.compatible_iff]

theorem profileIndices_eq (c : HeadConfig) (l : LoadState) : profileIndices c l =
    (if l = .loaded then c.loadedX else c.emptyX, if l = .loaded then c.loadedY else c.emptyY) := by
  cases l <;> rfl

/-- The travel of a grant: the profiles of the load state, and the limit of its leg time (R99, R104, R106). -/
theorem State.sendTravel_eq (s : State) (h : HeadId) (x y : Nat) :
    let hd := s.head h
    let c := s.cfg.heads.get h
    let px := if hd.load = .loaded then c.loadedX else c.emptyX
    let py := if hd.load = .loaded then c.loadedY else c.emptyY
    let mx := s.cfg.motion[px]
    let my := s.cfg.motion[py]
    let time := max (moveTime (max hd.x x - min hd.x x) mx.velocity mx.acceleration)
      (moveTime (max hd.y y - min hd.y y) my.velocity my.acceleration) + max mx.settle my.settle
    s.sendTravel h x y =
      (s.send (.travel h x y px py)).setCommand h (.travel x y px py (.running (s.time + (time + (time + 7) / 8 + 20000)))) := by
  simp only [State.sendTravel, State.headLegTime, travelLimit, legTime, distance, ceilDiv, profileIndices_eq]
  rfl

theorem State.grantLeg_eq (s : State) (h : HeadId) (x y : Nat) (iv : Interval) :
    s.grantLeg h x y iv = (((s.setReserved h (some iv)).setWaiting h none).setHead h { s.head h with
      state := if (s.head h).job.map Job.kind = some .yield then .yielding else .moving }).sendTravel h x y := by
  simp only [State.grantLeg, State.setHeadState, State.isYielding, beq_iff_eq]
  rfl

theorem State.regrant_of_none (hw : s.rail.waiting.get h = none) : s.regrant h = s := by
  simp only [State.regrant, hw]

theorem State.regrant_of_allowed {w : WaitingLeg} (hw : s.rail.waiting.get h = some w)
    (ha : (s.working && s.compatible h w.swept) = true) : s.regrant h = s.grantLeg h w.x w.y w.swept := by
  simp only [State.regrant, hw, ha, if_true]

theorem State.regrant_of_barred {w : WaitingLeg} (hw : s.rail.waiting.get h = some w)
    (ha : (s.working && s.compatible h w.swept) = false) : s.regrant h = s := by
  simp only [State.regrant, hw, ha]
  rfl

theorem State.grantLeg_waiting_other (x y : Nat) (iv : Interval) :
    (s.grantLeg h x y iv).rail.waiting.get h.other = s.rail.waiting.get h.other :=
  (State.grantLeg_only x y iv).waiting

theorem State.settledHead_of_none (hw : s.rail.waiting.get h = none) : s.settledHead h.other = s := by
  simp only [State.settledHead, HeadId.other_other, hw]

theorem State.settledHead_of_allowed {w : WaitingLeg} (hw : s.rail.waiting.get h = some w)
    (ha : (s.working && s.compatible h w.swept) = true) :
    s.settledHead h.other = (s.grantLeg h w.x w.y w.swept).regrant h.other := by
  simp only [State.settledHead, HeadId.other_other, hw, ha, if_true, State.grant]

theorem State.settledHead_of_barred {w : WaitingLeg} (hw : s.rail.waiting.get h = some w)
    (ha : (s.working && s.compatible h w.swept) = false) : s.settledHead h.other = s.actOnBlocker h := by
  simp only [State.settledHead, HeadId.other_other, hw, ha]
  rfl

theorem State.actOnBlocker_of_resting (hs : (s.head h.other).state = .idle ∨ (s.head h.other).state = .binWait) :
    s.actOnBlocker h = s.giveYield h.other := by
  unfold State.actOnBlocker
  rcases hs with e | e <;> rw [e]

theorem State.actOnBlocker_of_mutual (hs : (s.head h.other).state = .bound ∨ (s.head h.other).state = .railWait)
    (hw : s.rail.waiting.get h.other ≠ none) : s.actOnBlocker h = s.mutualWait := by
  have waits := Option.isSome_iff_ne_none.2 hw
  unfold State.actOnBlocker
  rcases hs with e | e <;> simp only [e, waits, if_true]

theorem State.actOnBlocker_of_not_waiting (hs : (s.head h.other).state = .bound ∨ (s.head h.other).state = .railWait)
    (hw : s.rail.waiting.get h.other = none) : s.actOnBlocker h = s := by
  unfold State.actOnBlocker
  rcases hs with e | e <;> simp only [e, hw] <;> rfl

theorem State.actOnBlocker_of_away (hs : (s.head h.other).state.takesNone = true) : s.actOnBlocker h = s := by
  unfold State.actOnBlocker
  split <;> simp_all [HeadState.takesNone]

/-- A leg submitted to the arbiter: granted, or waiting with the blocking head acted on (R82, R87). -/
theorem State.submit_eq {st : HeadState} {l : Leg} {rest : List Leg} (hl : (s.head h).legs = l :: rest) :
    s.submit h st =
      if (s.working && s.compatible h (sweep (s.head h).x l.x)) = true then
        (s.setHeadState h st).grant h l.x l.y (sweep (s.head h).x l.x)
      else ((s.setHeadState h st).setWaiting h
        (some { x := l.x, y := l.y, swept := sweep (s.head h).x l.x, level := s.jobLevel h })).actOnBlocker h := by
  have hx : ((s.setHeadState h st).head h).x = (s.head h).x := by simp [State.setHeadState]
  have hj : (s.setHeadState h st).jobLevel h = s.jobLevel h := by simp [State.jobLevel, State.setHeadState]
  have hc : ((s.setHeadState h st).working && (s.setHeadState h st).compatible h (sweep (s.head h).x l.x)) =
      (s.working && s.compatible h (sweep (s.head h).x l.x)) := rfl
  unfold State.submit State.examine
  simp only [hl, hx, hj, hc]
  by_cases ha : (s.working && s.compatible h (sweep (s.head h).x l.x)) = true
  · simp only [ha, if_true]
  · simp only [ha]; rfl

theorem State.examine_of_allowed {l : Leg} (ha : (s.working && s.compatible h (sweep (s.head h).x l.x)) = true) :
    (s.examine h l).1 = s.grant h l.x l.y (sweep (s.head h).x l.x) := by
  simp only [State.examine, ha, if_true]

/-- A grant whose swept interval does not clear the other head's waiting leg is that grant alone (R79, R85). -/
theorem State.grant_of_blocking {w : WaitingLeg} {x y : Nat} {iv : Interval} (hw : s.rail.waiting.get h.other = some w)
    (ha : h = .a → w.swept.lo < iv.hi + s.deck.separation) (hb : h = .b → iv.lo < w.swept.hi + s.deck.separation) :
    s.grant h x y iv = s.grantLeg h x y iv := by
  have deck : (s.grantLeg h x y iv).deck = s.deck := by rw [State.grantLeg_eq, State.sendTravel_eq]; rfl
  have mine : (s.grantLeg h x y iv).rail.reserved.get h = some iv := by
    rw [State.grantLeg_eq, State.sendTravel_eq]
    exact Pair.get_set_self _ _ _
  refine State.regrant_of_barred ((State.grantLeg_waiting_other x y iv).trans hw) ?_
  rw [← Bool.not_eq_true, State.allowed_iff, deck, HeadId.other_other]
  rintro ⟨_, clear⟩
  cases h with
  | a => exact absurd ((clear iv mine).2 rfl) (not_le.2 (ha rfl))
  | b => exact absurd ((clear iv mine).1 rfl) (not_le.2 (hb rfl))

/-- The leg of a YIELD to the clearance point of the other head's waiting leg (R88, R89). -/
def State.yieldLeg (s : State) (h : HeadId) (w : WaitingLeg) : Leg :=
  { kind := .travel, nozzle := none, location := .clearance (s.clearance h w.swept), x := s.clearance h w.swept,
    y := (s.head h).y, unit := none, frame := none }

/-- A head with the YIELD job it is given (R89). -/
def State.yieldGiven (s : State) (h : HeadId) (w : WaitingLeg) : State :=
  s.setHead h { s.head h with state := .bound, job := some yieldJob, legs := [s.yieldLeg h w] }

theorem State.giveYield_eq {w : WaitingLeg} (hw : s.rail.waiting.get h.other = some w) :
    s.giveYield h = ((s.yieldGiven h w).examine h (s.yieldLeg h w)).1 := by
  simp only [State.giveYield, hw]
  rfl

/-- A YIELD whose leg is granted, and does not itself clear the waiting leg (R89). -/
theorem State.giveYield_of_allowed {w : WaitingLeg} (hw : s.rail.waiting.get h.other = some w)
    (hs : (s.working && s.compatible h (sweep (s.head h).x (s.clearance h w.swept))) = true)
    (ha : h = .a → w.swept.lo < (sweep (s.head h).x (s.clearance h w.swept)).hi + s.deck.separation)
    (hb : h = .b → (sweep (s.head h).x (s.clearance h w.swept)).lo < w.swept.hi + s.deck.separation) :
    s.giveYield h = (s.yieldGiven h w).grantLeg h (s.clearance h w.swept) (s.head h).y
      (sweep (s.head h).x (s.clearance h w.swept)) := by
  have hx : ((s.yieldGiven h w).head h).x = (s.head h).x := by
    rw [State.yieldGiven, State.head_setHead_self]
  rw [State.giveYield_eq hw, State.examine_of_allowed (by rw [hx]; exact hs), hx]
  exact State.grant_of_blocking hw ha hb

/-! ## A dissolution (R74) -/

theorem State.reroute_kept (t : State) : t.reroute.planner = t.planner ∧ t.reroute.sites = t.sites ∧ t.reroute.rail = t.rail := by
  obtain ⟨_, _, _, _, e⟩ := State.reroute_eq t
  rw [e]
  exact ⟨rfl, rfl, rfl⟩

theorem State.dissolve_freed (s : State) (h : HeadId) (d kept : List Leg) : ∀ l ∈ d, LegFreed h l (s.dissolve h d kept) := by
  rw [State.dissolve_eq]
  exact fun l hl => (s.withdraw_freed h d l hl).mono (Frees.trans Frees.of_same (State.reroute_frees _))

theorem State.dissolve_request (s : State) (h : HeadId) (d kept : List Leg) (i : Site) :
    (s.dissolve h d kept).socket i = (s.withdraw h d).socket i ∧ (s.dissolve h d kept).request i = (s.withdraw h d).request i := by
  obtain ⟨hp, hs, _⟩ := State.reroute_kept ((s.withdraw h d).setHead h { (s.withdraw h d).head h with job := none, legs := kept })
  rw [State.dissolve_eq, State.socket, State.request, hp, hs]
  exact ⟨rfl, rfl⟩

theorem State.dissolve_dissolved (s : State) (h : HeadId) : Dissolved h s (s.dissolve h (s.head h).legs []) := by
  have head := State.dissolve_head (s := s) (h := h) (s.head h).legs []
  refine ⟨LegFreed.withdrawn s (s.dissolve_freed h _ []) (by rw [head]) (State.dissolve_waiting _ _) fun j i hj hi hb => ?_,
    by rw [head], by rw [head]⟩
  obtain ⟨hs, hq⟩ := s.dissolve_request h (s.head h).legs [] i
  rw [hs, hq]
  exact s.withdraw_request _ hj hi hb

end

end Sys2Proof.Machine

open Sys2Proof Sys2Proof.Machine in
/-- Settles O49: the grant's own effects, the four answers to a refused leg by the blocking head's state, the re-examination, a
YIELD granted at once, and what a dissolution leaves. -/
theorem railLegs : Obligations.RailLegs := by
  intro s h hd g working apart swept level
  have allowed (iv : Interval) : (s.working && s.compatible h iv) = true ↔ working ∧ apart iv := s.allowed_iff h iv
  have barred (iv : Interval) (hn : ¬working ∨ ¬apart iv) : (s.working && s.compatible h iv) = false := by
    rw [← Bool.not_eq_true, allowed]
    exact not_and_or.2 hn
  refine ⟨fun x y iv => ?_, fun l rest st hl => ⟨fun hw ha hn => ?_, fun hn => ?_⟩, fun w hw => ⟨fun ho ha => ?_, fun hn => ?_,
    fun ho ha => ?_, fun hn hs => ?_⟩, fun hn => ⟨State.regrant_of_none hn, State.settledHead_of_none hn⟩, fun w hw => ?_,
    ⟨_, rfl, rfl⟩, s.dissolve_dissolved h⟩
  · rw [State.grantLeg_eq, State.sendTravel_eq]
    simp only [State.head_setHead_self]
    rfl
  · have granted : (s.working && s.compatible h (sweep (s.head h).x l.x)) = true := (allowed (swept l.x)).2 ⟨hw, ha⟩
    rw [State.submit_eq hl, if_pos granted]
    exact State.regrant_of_none ((State.grantLeg_waiting_other _ _ _).trans hn)
  · have waits := State.submit_eq (st := st) hl
    rw [if_neg (by rw [Bool.not_eq_true]; exact barred (swept l.x) hn)] at waits
    have other (q : Option WaitingLeg) : ((s.setHeadState h st).setWaiting h q).head h.other = s.head h.other :=
      (State.head_setHead s h h.other _).trans (if_neg (HeadId.other_ne h))
    have waiting (q : Option WaitingLeg) :
        ((s.setHeadState h st).setWaiting h q).rail.waiting.get h.other = s.rail.waiting.get h.other :=
      Pair.get_other_set _ _ _
    refine ⟨fun hs => ?_, fun hs hq => ?_, fun hs hq => ?_, fun hs => ?_⟩
    · exact waits.trans (State.actOnBlocker_of_resting (by rwa [other]))
    · exact waits.trans (State.actOnBlocker_of_mutual (by rwa [other]) (by rwa [waiting]))
    · exact waits.trans (State.actOnBlocker_of_not_waiting (by rwa [other]) (by rwa [waiting]))
    · refine waits.trans (State.actOnBlocker_of_away ?_)
      rw [other]
      rcases hs with e | e | e | e | e <;> rw [e] <;> rfl
  · exact State.regrant_of_allowed hw ((allowed _).2 ⟨ho, ha⟩)
  · exact State.regrant_of_barred hw (barred _ hn)
  · exact State.settledHead_of_allowed hw ((allowed _).2 ⟨ho, ha⟩)
  · exact (State.settledHead_of_barred hw (barred _ hn)).trans (State.actOnBlocker_of_resting hs)
  · exact fun ho ha hA hB => State.giveYield_of_allowed hw ((allowed (swept (s.clearance h w.swept))).2 ⟨ho, ha⟩) hA hB
end

section
/-! O37: a host write to a slot's state word (R148, R149, R156), and a flag set, a notice written and a slot freed as one
update of the registers, memory, the board and the messages. -/

set_option Elab.async false

namespace Sys2Proof.Machine

variable (s : State)

/-- A flag set changes the registers' flags with what is derived of them. -/
theorem State.setFlag_regs (c : AttentionClass) :
    (s.setFlag c).regs = { s.regs with
      attention := s.regs.attention ||| (1#6 <<< c.bit)
      top := (s.setFlag c).regs.top
      interrupt := (s.setFlag c).regs.interrupt } := by
  unfold State.setFlag State.setRegisters State.send
  simp only
  split <;> rfl

/-- A notice written into a slot: the slot's bytes, the counter and the NOTICE flag (R155). -/
theorem State.writeNotice_eq (k : SlotId) (n : Notice) :
    s.writeNotice k n = { s with
      mem := slotWritten s.mem k n s.board.sequence
      board := { s.board with sequence := s.board.sequence + 1#16 }
      regs := (s.setFlag .notice).regs
      outbox := (s.setFlag .notice).outbox } :=
  State.setFlag_congr (s := s)
    (t := { s with
      mem := slotWritten s.mem k n s.board.sequence
      board := { s.board with sequence := s.board.sequence + 1#16 } }) .notice rfl rfl

/-- The state that the oldest waiting notice leaves when it moves into a freed slot (R156). -/
def State.movedIn (k : SlotId) (n : Notice) (rest : List Notice) : State :=
  { s with
    mem := slotWritten (writeWord s.mem (Config.slotBase k) 0#32) k n s.board.sequence
    board := { s.board with queue := rest, sequence := s.board.sequence + 1#16 }
    regs := (s.setFlag .notice).regs
    outbox := (s.setFlag .notice).outbox
    agenda := s.agenda ++ if rest = [] then [.selectIdle, .drainTest] else [] }

theorem State.slotFreed_of_empty (k : SlotId) (h : s.board.queue = []) :
    s.slotFreed k = { s with mem := writeWord s.mem (Config.slotBase k) 0#32 } := by
  unfold State.slotFreed
  simp only [State.poke_board, h]
  rfl

theorem State.slotFreed_of_waiting (k : SlotId) (n : Notice) (rest : List Notice) (h : s.board.queue = n :: rest) :
    s.slotFreed k = s.movedIn k n rest := by
  have hf : ({ s.poke (Config.slotBase k) 0#32 with board := { s.board with queue := rest } } : State).setFlag .notice =
      { s.poke (Config.slotBase k) 0#32 with
        board := { s.board with queue := rest }, regs := (s.setFlag .notice).regs, outbox := (s.setFlag .notice).outbox } :=
    State.setFlag_congr .notice rfl rfl
  unfold State.slotFreed State.movedIn
  simp only [State.poke_board, h, State.writeNotice_eq, hf]
  cases rest with
  | nil => simp [State.push, State.poke, State.setMem]
  | cons m ms => simp [State.poke, State.setMem]

/-- Outside the slot the move leaves memory as it was. -/
theorem State.readByte_movedIn (k : SlotId) (n : Notice) (rest : List Notice) (a : Nat)
    (h : ¬(Config.slotBase k ≤ a ∧ a < Config.slotBase k + 0x40)) :
    readByte (s.movedIn k n rest).mem a = readByte s.mem a :=
  (readByte_slotWritten_of_outside _ _ _ _ _ (by omega)).trans (readByte_writeWord_of_outside _ _ _ _ (by omega))

/-- What is left to do after the move comes to nothing when the queue is not emptied, or with no head taking work, outside
DRAINING. -/
theorem State.movedIn_finish (k : SlotId) (n : Notice) (rest : List Notice) (hr : s.atRest)
    (h : rest ≠ [] ∨ (s.noTakers ∧ s.control.state ≠ .draining)) :
    (s.movedIn k n rest).finish = .next { s.movedIn k n rest with agenda := [] } := by
  have agenda : (s.movedIn k n rest).agenda = if rest = [] then [.selectIdle, .drainTest] else [] := by
    rw [State.movedIn, hr.1, List.nil_append]
  by_cases he : rest = []
  · obtain ⟨hn, hd⟩ := h.resolve_left (not_not_intro he)
    rw [if_pos he] at agenda
    refine finish_quiet _ hn hr.2 ?_ (by rw [agenda]; decide)
    rw [agenda]
    rintro x (_ | ⟨_, _ | ⟨_, ⟨⟩⟩⟩)
    · exact .inl rfl
    · exact .inr ⟨rfl, hd⟩
  · rw [if_neg he] at agenda
    rw [State.finish_rest _ ⟨agenda, hr.2⟩]
    exact congrArg (fun l => Host.Outcome.next { s.movedIn k n rest with agenda := l }) agenda

/-! ### The write judged -/

theorem State.slotWrite_narrow (k : SlotId) (v : Word) : s.slotWrite k true v = s.setErrorAddress (Config.slotBase k) := rfl

theorem State.slotWrite_repeated (k : SlotId) (v : Word) (h : v = readWord s.mem (Config.slotBase k)) :
    s.slotWrite k false v = s := by
  simp [State.slotWrite, h]

theorem State.slotWrite_freeing (k : SlotId) (h : readWord s.mem (Config.slotBase k) = 1#32) :
    s.slotWrite k false 0#32 = s.slotFreed k := by
  simp [State.slotWrite, h]

theorem State.slotWrite_refused (k : SlotId) (v : Word) (h : v ≠ readWord s.mem (Config.slotBase k))
    (hf : ¬(readWord s.mem (Config.slotBase k) = 1#32 ∧ v = 0#32)) :
    s.slotWrite k false v = s.setErrorAddress (Config.slotBase k) := by
  simp [State.slotWrite, h, hf]

theorem fullWrite_of_ne {e : BitVec 4} (h : e ≠ 0xF#4) : fullWrite e = false := beq_false_of_ne h

/-- A write of some bytes, or of a value, that is refused, from rest. -/
theorem State.exec_slotWriteRefused (k : SlotId) (e : BitVec 4) (v : Word) (he : e ≠ 0#4) :
    exec (.slotWriteRefused k e v) s = (s.slotWrite k (!fullWrite e) v).finish := by
  change execSlotWriteRefused k e v s = _
  rw [execSlotWriteRefused, if_neg he]

end Sys2Proof.Machine

open Sys2Proof Sys2Proof.Machine in
/-- Settles O37: each case of the table is one branch of `slotWrite`, and the move of a notice is `movedIn`. -/
theorem slotWordJudged : Obligations.SlotWordJudged := by
  intro s k e v hr
  have rest : ∀ a : Nat, (s.setErrorAddress a).finish = .next (s.setErrorAddress a) := fun a => State.finish_rest _ hr
  refine ⟨fun h hq => ?_, fun n rest h hq => ?_, ⟨rfl, rfl⟩, fun h0 hF => ?_, fun hv hf => ?_, fun h0 h1 => ?_,
    fun h => ?_, ?_⟩
  · change (s.slotWrite k false 0#32).finish = _
    rw [State.slotWrite_freeing s k h, State.slotFreed_of_empty s k hq]
    exact State.finish_rest _ hr
  · have run : exec (.slotFree k) s = (s.movedIn k n rest).finish := by
      change (s.slotWrite k false 0#32).finish = _
      rw [State.slotWrite_freeing s k h, State.slotFreed_of_waiting s k n rest hq]
    refine ⟨s.movedIn k n rest, run, rfl, rfl, rfl, slotHolds_slotWritten _ _ _ _, State.setFlag_regs s .notice,
      fun a ha => State.readByte_movedIn s k n rest a ha, ?_, fun hq => run.trans (State.movedIn_finish s k n rest hr hq)⟩
    rw [State.movedIn, hr.1, List.nil_append]
  · rw [State.exec_slotWriteRefused s k e v h0, fullWrite_of_ne hF, Bool.not_false, State.slotWrite_narrow]
    exact rest _
  · rw [State.exec_slotWriteRefused s k _ v (by decide), show (!fullWrite 0xF#4) = false from rfl,
      State.slotWrite_refused s k v hv hf]
    exact rest _
  · change (s.slotWrite k false 0#32).finish = _
    rw [State.slotWrite_refused s k _ (Ne.symm h0) fun h => h1 h.1]
    exact rest _
  · change (s.slotWrite k false 0#32).finish = _
    rw [State.slotWrite_repeated s k _ h.symm]
    exact State.finish_rest _ hr
  · rw [State.exec_slotWriteRefused s k _ _ (by decide)]
    exact (congrArg State.finish (State.slotWrite_repeated s k _ rfl)).trans (State.finish_rest _ hr)
end

section
/-! SUPPORT. The tray frame unit's operations as updates of the state: the head of a frame in memory, a frame REJECTED, SPENT or
copied, and a POSTED frame's checks one by one (R129, R130, R142). -/

set_option Elab.async false

namespace Sys2Proof.Machine

/-! ### A frame's area of memory (section 8.3) -/

theorem writable_frame (f : FrameId) (o : Nat) (h : o < 0x1000) : writable (Config.frameBase f + o) = true := by
  have hf := f.isLt
  unfold Config.frameBase writable
  simp only [Bool.or_eq_true, Bool.and_eq_true, decide_eq_true_eq]
  omega

/-- Past the identity block an unlisted byte reads as zero. -/
theorem background_of_le {a : Nat} (h : 0x4000 ≤ a) : background a = 0#8 := by
  have hl : Config.identityBytes.length ≤ a := by
    have : Config.identityBytes.length = 10 := rfl
    omega
  rw [background, List.getD_eq_default _ _ hl]

theorem readWord_writeWord_frame (m : List Host.Cell) (f : FrameId) (o : Nat) (w : Word) (h : o + 4 ≤ 0x1000) :
    readWord (writeWord m (Config.frameBase f + o) w) (Config.frameBase f + o) = w :=
  readWord_writeWord _ _ _ (writable_frame f o (by omega)) (writable_frame f (o + 1) (by omega))
    (writable_frame f (o + 2) (by omega)) (writable_frame f (o + 3) (by omega))

/-- A bit of a word, found in its byte. -/
theorem getLsbD_readWord (m : List Host.Cell) (a j : Nat) (h : j < 32) :
    (readWord m a).getLsbD j = (readByte m (a + j / 8)).getLsbD (j % 8) := by
  have byte : ∀ q : Nat, q < 4 → ∀ r : Nat, r < 8 →
      (readWord m a).getLsbD (8 * q + r) = (readByte m (a + q)).getLsbD r := by
    intro q hq r hr
    unfold readWord
    simp only [BitVec.getLsbD_append]
    match q, hq with
    | 0, _ => rw [if_pos (by omega)]; simp
    | 1, _ => rw [if_neg (by omega), if_pos (by omega)]; congr 1; omega
    | 2, _ => rw [if_neg (by omega), if_neg (by omega), if_pos (by omega)]; congr 1; omega
    | 3, _ => rw [if_neg (by omega), if_neg (by omega), if_neg (by omega)]; congr 1; omega
  rw [← byte (j / 8) (by omega) (j % 8) (by omega), Nat.div_add_mod]

/-- A pocket's occupancy flag, found in its byte. -/
theorem getLsbD_readOccupancy (m : List Host.Cell) (b i : Nat) (h : i < 128) :
    (readOccupancy m b).getLsbD i = (readByte m (b + 0x20 + i / 8)).getLsbD (i % 8) := by
  have word : ∀ q : Nat, q < 4 → ∀ r : Nat, r < 32 →
      (readOccupancy m b).getLsbD (32 * q + r) = (readWord m (b + 0x20 + 4 * q)).getLsbD r := by
    intro q hq r hr
    unfold readOccupancy
    simp only [BitVec.getLsbD_append]
    match q, hq with
    | 0, _ => rw [if_pos (by omega)]; simp
    | 1, _ => rw [if_neg (by omega), if_pos (by omega)]; congr 1; omega
    | 2, _ => rw [if_neg (by omega), if_neg (by omega), if_pos (by omega)]; congr 1; omega
    | 3, _ => rw [if_neg (by omega), if_neg (by omega), if_neg (by omega)]; congr 1; omega
  have e := word (i / 32) (by omega) (i % 32) (by omega)
  rw [Nat.div_add_mod] at e
  rw [e, getLsbD_readWord _ _ _ (by omega), show b + 0x20 + 4 * (i / 32) + i % 32 / 8 = b + 0x20 + i / 8 by omega,
    show i % 32 % 8 = i % 8 by omega]

/-- The head of a frame written: the reason with its count, and the state word. -/
def frameHeaded (m : List Host.Cell) (f : FrameId) (r : FrameReason) (done : Nat) (st : FrameState) : List Host.Cell :=
  writeWord (writeWord m (Config.frameBase f + 0x0C) (packBytes r.code done 0 0)) (Config.frameBase f) (BitVec.ofNat 32 st.code)

theorem readWord_frameHeaded_state (m : List Host.Cell) (f : FrameId) (r : FrameReason) (n : Nat) (st : FrameState) :
    readWord (frameHeaded m f r n st) (Config.frameBase f) = BitVec.ofNat 32 st.code :=
  readWord_writeWord_frame _ f 0 _ (by omega)

theorem readWord_frameHeaded_reason (m : List Host.Cell) (f : FrameId) (r : FrameReason) (n : Nat) (st : FrameState) :
    readWord (frameHeaded m f r n st) (Config.frameBase f + 0x0C) = packBytes r.code n 0 0 :=
  (readWord_writeWord_of_apart _ _ _ _ (.inr (by omega))).trans (readWord_writeWord_frame _ f 0x0C _ (by omega))

theorem readByte_frameHeaded (m : List Host.Cell) (f : FrameId) (r : FrameReason) (n : Nat) (st : FrameState) (a : Nat)
    (h : ¬(Config.frameBase f ≤ a ∧ a < Config.frameBase f + 4))
    (h' : ¬(Config.frameBase f + 0x0C ≤ a ∧ a < Config.frameBase f + 0x10)) :
    readByte (frameHeaded m f r n st) a = readByte m a :=
  (readByte_writeWord_of_outside _ _ _ _ (by omega)).trans (readByte_writeWord_of_outside _ _ _ _ (by omega))

/-- The word at 0x00C in one number. -/
theorem packBytes_reason (r n : Nat) (hr : r < 256) : packBytes r n 0 0 = BitVec.ofNat 32 (r + 0x100 * (n % 256)) := by
  apply BitVec.eq_of_toNat_eq
  unfold packBytes
  simp only [BitVec.toNat_append, BitVec.toNat_ofNat]
  rw [← Nat.shiftLeft_add_eq_or_of_lt (by omega), ← Nat.shiftLeft_add_eq_or_of_lt (by omega),
    ← Nat.shiftLeft_add_eq_or_of_lt (by omega)]
  simp only [Nat.shiftLeft_eq]
  omega

variable (s : State)

/-! ### A frame REJECTED, and SPENT -/

theorem State.rejectFrame_eq (f : FrameId) (r : FrameReason) (h : s.control.state ≠ .unarmed) :
    s.rejectFrame f r = { s with
      mem := frameHeaded s.mem f r 0 .rejected
      regs := (s.setFlag .tray).regs
      outbox := (s.setFlag .tray).outbox
      trays := { s.trays with frames := s.trays.frames.set f { FrameRecord.reset with state := .rejected } } } := by
  have hf : ((s.writeReason f r 0).writeFrameState f .rejected).setFlag .tray = { s with
      mem := frameHeaded s.mem f r 0 .rejected, regs := (s.setFlag .tray).regs, outbox := (s.setFlag .tray).outbox } :=
    State.setFlag_congr .tray rfl rfl
  unfold State.rejectFrame
  simp only [hf]
  rw [if_neg (by simpa [State.isIn] using h)]
  rfl

/-- What leaving the input activation list may leave to do: the selection, when another frame becomes the first. -/
theorem State.leaveInputs_eq (f : FrameId) : ∃ l : List Task, (∀ x ∈ l, x = .selectIdle) ∧ l.length ≤ 1 ∧
    s.leaveInputs f = { s with
      trays := { s.trays with inputs := s.trays.inputs.filter fun g => g != f }, agenda := s.agenda ++ l } := by
  have kept : s.leaveInputs f = { s with trays := { s.trays with inputs := s.trays.inputs.filter fun g => g != f } } ∨
      s.leaveInputs f =
        State.push { s with trays := { s.trays with inputs := s.trays.inputs.filter fun g => g != f } } .selectIdle := by
    unfold State.leaveInputs
    simp only
    split
    · split
      · exact .inr rfl
      · exact .inl rfl
    · exact .inl rfl
  rcases kept with e | e
  · exact ⟨[], by simp, by simp, by rw [e, List.append_nil]⟩
  · exact ⟨[.selectIdle], by simp, by simp, e⟩

theorem State.spend_eq (f : FrameId) (r : FrameReason) : ∃ l : List Task, (∀ x ∈ l, x = .selectIdle) ∧ l.length ≤ 1 ∧
    s.spend f r = { s with
      mem := frameHeaded s.mem f r (s.frame f).done .spent
      regs := (s.setFlag .tray).regs
      outbox := (s.setFlag .tray).outbox
      trays :=
        { inputs := s.trays.inputs.filter fun g => g != f
          frames := s.trays.frames.set f { s.frame f with state := .spent, marks := [] } }
      agenda := s.agenda ++ l } := by
  have hf : ((s.writeReason f r (s.frame f).done).writeFrameState f .spent).setFlag .tray = { s with
      mem := frameHeaded s.mem f r (s.frame f).done .spent
      regs := (s.setFlag .tray).regs, outbox := (s.setFlag .tray).outbox } :=
    State.setFlag_congr .tray rfl rfl
  obtain ⟨l, hl, hn, e⟩ := State.leaveInputs_eq { s with
      mem := frameHeaded s.mem f r (s.frame f).done .spent
      regs := (s.setFlag .tray).regs, outbox := (s.setFlag .tray).outbox } f
  refine ⟨l, hl, hn, ?_⟩
  unfold State.spend
  simp only [hf, e]
  rfl

theorem State.closedTest_of_reserved (f : FrameId) (h : (s.frame f).marks.any PocketMark.isReserved = true) :
    s.closedTest f = s := by
  simp [State.closedTest, h]

theorem State.closedTest_of_none (f : FrameId) (hc : (s.frame f).state = .close)
    (h : (s.frame f).marks.any PocketMark.isReserved = false) : s.closedTest f = s.spend f .closed := by
  simp [State.closedTest, hc, h]

theorem any_isReserved_iff (l : List PocketMark) :
    l.any PocketMark.isReserved = true ↔ ∃ (i : Nat) (h : HeadId), l[i]? = some (.reserved h) := by
  rw [List.any_eq_true]
  constructor
  · rintro ⟨m, hm, hr⟩
    obtain ⟨i, hi⟩ := List.mem_iff_getElem?.1 hm
    cases m with
    | reserved h => exact ⟨i, h, hi⟩
    | isOpen | done => cases hr
  · rintro ⟨i, h, e⟩
    exact ⟨.reserved h, List.mem_iff_getElem?.2 ⟨i, e⟩, rfl⟩

/-! ### The frame copied (R130) -/

theorem readFrameCopy_congr {m n : List Host.Cell} (f : FrameId) (st : Station)
    (h : ∀ o : Nat, 4 ≤ o → readByte n (Config.frameBase f + o) = readByte m (Config.frameBase f + o)) :
    readFrameCopy n f st = readFrameCopy m f st := by
  have word (o : Nat) (ho : 4 ≤ o) : readWord n (Config.frameBase f + o) = readWord m (Config.frameBase f + o) :=
    readWord_congr fun b _ => by rw [Nat.add_assoc]; exact h _ (by omega)
  have half : readHalf n (Config.frameBase f + 8) = readHalf m (Config.frameBase f + 8) := by
    unfold readHalf
    rw [Nat.add_assoc, h 8 (by omega), h (8 + 1) (by omega)]
  have list (i : Nat) : readWord n (listOffset f i) = readWord m (listOffset f i) := by
    unfold listOffset
    rw [Nat.add_assoc]
    exact word _ (by omega)
  unfold readFrameCopy readOccupancy
  simp only [h 5 (by omega), h 6 (by omega), h 7 (by omega), half, list, word 0x10 (by omega), word 0x20 (by omega),
    word 0x24 (by omega), word 0x28 (by omega), word 0x2C (by omega)]

/-- The results of a copied frame cleared, and for an output frame its time list (R130, R147). -/
def frameCleared (m : List Host.Cell) (f : FrameId) : Station → List Host.Cell
  | .output _ => clearRange (clearRange m (resultOffset f 0) (128 * 24)) (listOffset f 0) (128 * 4)
  | .input _ | .strip => clearRange m (resultOffset f 0) (128 * 24)

/-- Where the cleared part of a frame begins. -/
def clearedFrom : Station → Nat
  | .input _ => 0x240
  | .output _ | .strip => 0x40

theorem readByte_frameCleared (m : List Host.Cell) (f : FrameId) (st : Station) (hs : st ≠ .strip) (a : Nat) :
    readByte (frameCleared m f st) a =
      if Config.frameBase f + clearedFrom st ≤ a ∧ a < Config.frameBase f + 0xE40 then 0#8 else readByte m a := by
  have zero : Config.frameBase f ≤ a → background a = 0#8 := fun h =>
    background_of_le (by unfold Config.frameBase at h; omega)
  cases st with
  | strip => exact absurd rfl hs
  | input n =>
    rw [frameCleared, readByte_clearRange, resultOffset, clearedFrom]
    by_cases h : Config.frameBase f + 0x240 ≤ a ∧ a < Config.frameBase f + 0xE40
    · rw [if_pos h, if_neg (by omega), zero (by omega)]
    · rw [if_neg h, if_pos (by omega)]
  | output n =>
    rw [frameCleared, readByte_clearRange, readByte_clearRange, resultOffset, listOffset, clearedFrom]
    by_cases h : Config.frameBase f + 0x40 ≤ a ∧ a < Config.frameBase f + 0xE40
    · rw [if_pos h, zero (by omega)]
      split
      · exact if_neg (by omega)
      · rfl
    · rw [if_neg h, if_pos (by omega), if_pos (by omega)]

/-- The record of a frame just copied: ACTIVE, every pocket OPEN, nothing done. -/
def FrameCopy.opened (c : FrameCopy) : FrameRecord :=
  { state := .active, copy := some c, marks := List.replicate c.size .isOpen, done := 0 }

theorem State.copyFrame_eq (f : FrameId) (st : Station) :
    s.copyFrame f st = { s with
      mem := frameHeaded (frameCleared s.mem f st) f .none 0 .active
      trays := { s.trays with frames := s.trays.frames.set f (readFrameCopy s.mem f st).opened } } := by
  cases st <;> rfl

end Sys2Proof.Machine
end

section
/-! O33: a POSTED frame judged (R129 to R131, R142), and a pocket's reservation released (R137, R140, R143). -/

set_option Elab.async false

namespace Sys2Proof.Machine

variable (s : State)

/-! ### The checks of R129 -/

/-- A frame's fields past its state word are as in the other memory. -/
def FieldsKept (f : FrameId) (m n : List Host.Cell) : Prop :=
  ∀ o : Nat, 4 ≤ o → readByte n (Config.frameBase f + o) = readByte m (Config.frameBase f + o)

theorem fieldsKept_poked (m : List Host.Cell) (f : FrameId) (w : Word) :
    FieldsKept f m (writeWord m (Config.frameBase f) w) :=
  fun _ _ => readByte_writeWord_of_outside _ _ _ _ (by omega)

/-- The tray's rows and columns lie in their ranges and in those of a station. -/
def goodTray (m : List Host.Cell) (f : FrameId) (g : Geometry) : Prop :=
  let rows := (readByte m (Config.frameBase f + 5)).toNat
  let columns := (readByte m (Config.frameBase f + 6)).toNat
  1 ≤ rows ∧ rows ≤ 8 ∧ 1 ≤ columns ∧ columns ≤ 16 ∧ rows ≤ g.maxRows ∧ columns ≤ g.maxColumns

/-- Another frame in use holds a station. -/
def State.stationBusy (f : FrameId) (st : Station) : Prop :=
  ∃ k : FrameId, k ≠ f ∧ (s.frame k).inUse = true ∧ (s.frame k).isAt st = true

/-- The number of pockets that a frame's host fields give. -/
def postedSize (m : List Host.Cell) (f : FrameId) : Nat :=
  (readByte m (Config.frameBase f + 5)).toNat * (readByte m (Config.frameBase f + 6)).toNat

/-- The occupancy flag of a pocket in a frame's host fields. -/
def postedFlag (m : List Host.Cell) (f : FrameId) (i : Nat) : Bool :=
  (readByte m (Config.frameBase f + 0x20 + i / 8)).getLsbD (i % 8)

theorem goodTray.size_le {m : List Host.Cell} {f : FrameId} {g : Geometry} (h : goodTray m f g) : postedSize m f ≤ 128 := by
  obtain ⟨-, hr, -, hc, -, -⟩ := h
  exact Nat.mul_le_mul hr hc

section
variable {s} {f : FrameId} (hu : s.control.state ≠ .unarmed) (hh : s.control.state ≠ .halted)
include hu hh

theorem State.validateFrame_badStation (h : 10 ≤ (readByte s.mem (Config.frameBase f + 4)).toNat) :
    s.validateFrame f = .error .badStation := by
  have code : stationOfCode (readByte s.mem (Config.frameBase f + 4)).toNat = some .strip ∨
      stationOfCode (readByte s.mem (Config.frameBase f + 4)).toNat = none := by
    unfold stationOfCode
    rw [dif_neg (by omega), dif_neg (by omega)]
    split
    · exact .inl rfl
    · exact .inr rfl
  rcases code with e | e <;> simp [State.validateFrame, State.isIn, hu, hh, e]

/-- At an input or output station the checks go on: geometry, station busy, and the last one by the kind of the station. -/
theorem State.validateFrame_at {st : Station} (hs : st ≠ .strip)
    (h : stationOfCode (readByte s.mem (Config.frameBase f + 4)).toNat = some st) :
    (¬goodTray s.mem f (stationGeometry s.cfg st) → s.validateFrame f = .error .badGeometry) ∧
    (goodTray s.mem f (stationGeometry s.cfg st) → s.stationBusy f st → s.validateFrame f = .error .stationBusy) ∧
    (goodTray s.mem f (stationGeometry s.cfg st) → ¬s.stationBusy f st →
      (∀ n : Fin 8, st = .output n →
        s.validateFrame f = if s.isBound n then .ok st else .error .unboundStation) ∧
      (∀ n : Fin 2, st = .input n → s.validateFrame f =
        if (List.range (postedSize s.mem f)).any fun i => (readOccupancy s.mem (Config.frameBase f)).getLsbD i then .ok st
        else .error .emptyTray)) := by
  have bad : ((readByte s.mem (Config.frameBase f + 5)).toNat < 1 || 8 < (readByte s.mem (Config.frameBase f + 5)).toNat ||
      (readByte s.mem (Config.frameBase f + 6)).toNat < 1 || 16 < (readByte s.mem (Config.frameBase f + 6)).toNat ||
      (stationGeometry s.cfg st).maxRows < (readByte s.mem (Config.frameBase f + 5)).toNat ||
      (stationGeometry s.cfg st).maxColumns < (readByte s.mem (Config.frameBase f + 6)).toNat) = true ↔
      ¬goodTray s.mem f (stationGeometry s.cfg st) := by
    simp only [goodTray, Bool.or_eq_true, decide_eq_true_eq]
    omega
  have busy : (allFrames.any fun k => k != f && (s.frame k).inUse && (s.frame k).isAt st) = true ↔ s.stationBusy f st := by
    simp [State.stationBusy, allFrames, and_assoc]
  have run : s.isIn .unarmed = false ∧ s.isIn .halted = false := ⟨beq_false_of_ne hu, beq_false_of_ne hh⟩
  unfold State.validateFrame
  simp only [run.1, run.2, h]
  cases st with
  | strip => exact absurd rfl hs
  | input n =>
    refine ⟨fun hg => if_pos (bad.2 hg), fun hg hb => ?_, fun hg hb => ⟨nofun, fun _ _ => ?_⟩⟩
    · exact (if_neg fun e => bad.1 e hg).trans (if_pos (busy.2 hb))
    · exact (if_neg fun e => bad.1 e hg).trans (if_neg fun e => hb (busy.1 e))
  | output n =>
    refine ⟨fun hg => if_pos (bad.2 hg), fun hg hb => ?_, fun hg hb => ⟨?_, nofun⟩⟩
    · exact (if_neg fun e => bad.1 e hg).trans (if_pos (busy.2 hb))
    · rintro _ ⟨⟩
      exact (if_neg fun e => bad.1 e hg).trans (if_neg fun e => hb (busy.1 e))

end

/-- Some pocket of the tray holds a unit. -/
theorem any_readOccupancy_iff {m : List Host.Cell} {f : FrameId} (h : postedSize m f ≤ 128) :
    (List.range (postedSize m f)).any (fun i => (readOccupancy m (Config.frameBase f)).getLsbD i) = true ↔
      ∃ i : Nat, i < postedSize m f ∧ postedFlag m f i = true := by
  simp only [List.any_eq_true, List.mem_range]
  refine exists_congr fun i => and_congr_right fun hi => ?_
  rw [getLsbD_readOccupancy _ _ _ (by omega), postedFlag]

theorem State.isBound_iff (n : Fin 8) : s.isBound n = true ↔ ∃ c : Fin 8, n ∈ s.cfg.classes[c] := by
  simp only [State.isBound, List.any_eq_true, List.contains_iff_mem, Vector.mem_toList_iff, Vector.mem_iff_getElem]
  constructor
  · rintro ⟨_, ⟨i, hi, rfl⟩, h⟩
    exact ⟨⟨i, hi⟩, h⟩
  · rintro ⟨c, h⟩
    exact ⟨_, ⟨c, c.isLt, rfl⟩, h⟩

/-! ### The stations of a tray -/

theorem Station.code_inj {a b : Station} (h : a.code = b.code) : a = b := by
  cases a with
  | input n =>
    cases b with
    | input m => exact congrArg _ (Fin.ext h)
    | output m => simp only [Station.code] at h; omega
    | strip => simp only [Station.code] at h; omega
  | output n =>
    cases b with
    | input m => simp only [Station.code] at h; omega
    | output m => exact congrArg _ (Fin.ext (Nat.add_right_cancel h))
    | strip => simp only [Station.code] at h; omega
  | strip =>
    cases b with
    | input m => simp only [Station.code] at h; omega
    | output m => simp only [Station.code] at h; omega
    | strip => rfl

/-- The codes 0 to 9 name the input and the output stations. -/
theorem stationOfCode_of_lt {c : Nat} (h : c < 10) : ∃ st : Station, stationOfCode c = some st ∧ st ≠ .strip ∧ st.code = c := by
  unfold stationOfCode
  split
  · exact ⟨_, rfl, nofun, rfl⟩
  · rw [dif_pos (by omega)]
    exact ⟨_, rfl, nofun, by simp only [Station.code]; omega⟩

theorem stationGeometry_eq (c : Shadow) {st : Station} {n : Nat} (h : st.code = n) (hn : n < 11) :
    stationGeometry c st = c.deck.stations[n] := by
  subst h
  cases st <;> rfl

theorem State.stationBusy_iff (f : FrameId) (st : Station) : s.stationBusy f st ↔ ∃ k : FrameId, k ≠ f ∧
    ((s.frame k).state = .active ∨ (s.frame k).state = .close) ∧
      ((s.frame k).copy.map fun c => c.station.code) = some st.code := by
  refine exists_congr fun k => and_congr_right fun _ => and_congr (by simp [FrameRecord.inUse]) ?_
  rw [FrameRecord.isAt, beq_iff_eq]
  cases (s.frame k).copy with
  | none => simp
  | some c => simpa using ⟨congrArg Station.code, Station.code_inj⟩

/-! ### REJECTED and activated, as the obligation names them -/

/-- The copy holds the host fields as the host wrote them. -/
theorem readFrameCopy_serials {m : List Host.Cell} {f : FrameId} {n : Fin 2}
    (he : (readByte m (Config.frameBase f + 7) == 1#8) = true) (i : Nat) (hi : i < postedSize m f) :
    (readFrameCopy m f (.input n)).serials[i]? = some (readWord m (listOffset f i)) := by
  simp only [postedSize] at hi
  simp [readFrameCopy, he, hi]

variable (f : FrameId)

theorem State.rejectFrame_rejected (hu : s.control.state ≠ .unarmed) {r : FrameReason} {code : Word}
    (hc : packBytes r.code 0 0 0 = code) : frameRejected s ((s.writeFrameState f .posted).rejectFrame f r) f code := by
  rw [State.rejectFrame_eq (s.writeFrameState f .posted) f r hu]
  refine ⟨rfl, fun k hk => ?_, fun h => absurd h hu, fun _ => ?_, readWord_frameHeaded_state _ _ _ _ _,
    (readWord_frameHeaded_reason _ _ _ _ _).trans hc, State.setFlag_attention _ .tray, fun a ha ha' => ?_⟩
  · exact (State.frame_setFrame s f k _).trans (if_neg (Ne.symm hk))
  · exact (State.frame_setFrame s f f _).trans (if_pos rfl)
  · exact (readByte_frameHeaded _ _ _ _ _ _ ha ha').trans
      (readByte_writeWord_of_outside _ _ _ _ (by unfold Config.frameBase; omega))

/-- An activated frame: what differs between ACTIVE and SPENT at once is its record, the head in memory and the flag. -/
theorem frameActivated_of {s t : State} {f : FrameId} {st : Station} {spent : Bool} (hs : st ≠ .strip)
    (active : spent = false → t.regs = s.regs ∧ t.outbox = s.outbox ∧ readWord t.mem (Config.frameBase f) = 2#32 ∧
      readWord t.mem (Config.frameBase f + 0x0C) = 0#32 ∧ t.frame f = (readFrameCopy s.mem f st).opened)
    (full : spent = true → t.regs.attention = s.regs.attention ||| 1#6 ∧ readWord t.mem (Config.frameBase f) = 4#32 ∧
      readWord t.mem (Config.frameBase f + 0x0C) = 1#32 ∧
      t.frame f = { (readFrameCopy s.mem f st).opened with state := .spent, marks := [] })
    (bytes : ∀ a : Nat, ¬(Config.frameBase f ≤ a ∧ a < Config.frameBase f + 4) →
      ¬(Config.frameBase f + 0x0C ≤ a ∧ a < Config.frameBase f + 0x10) →
      readByte t.mem a = readByte (frameCleared s.mem f st) a)
    (others : ∀ k : FrameId, k ≠ f → t.frame k = s.frame k) : frameActivated s t f st spent := by
  have low : 0x40 ≤ clearedFrom st := by cases st <;> simp [clearedFrom]
  have zero : ∀ a : Nat, Config.frameBase f + clearedFrom st ≤ a → a < Config.frameBase f + 0xE40 → readByte t.mem a = 0#8 :=
    fun a h h' => by rw [bytes a (by omega) (by omega), readByte_frameCleared _ _ _ hs, if_pos ⟨h, h'⟩]
  have kept : ∀ a : Nat, ¬(Config.frameBase f ≤ a ∧ a < Config.frameBase f + 4) →
      ¬(Config.frameBase f + 0x0C ≤ a ∧ a < Config.frameBase f + 0x10) →
      ¬(Config.frameBase f + clearedFrom st ≤ a ∧ a < Config.frameBase f + 0xE40) → readByte t.mem a = readByte s.mem a :=
    fun a h h' h'' => by rw [bytes a h h', readByte_frameCleared _ _ _ hs, if_neg h'']
  have occupancy : ∀ i : Nat, i < 128 → (readFrameCopy s.mem f st).occupancy.getLsbD i = postedFlag s.mem f i :=
    fun i hi => getLsbD_readOccupancy _ _ _ hi
  cases st with
  | strip => exact absurd rfl hs
  | input n =>
    exact ⟨_, rfl, rfl, rfl, rfl, rfl, rfl, occupancy, fun _ he => readFrameCopy_serials he, active, full, zero, kept, others⟩
  | output n => exact ⟨_, rfl, rfl, rfl, rfl, rfl, rfl, occupancy, nofun, active, full, zero, kept, others⟩

/-- The posted state word is no part of the copy. -/
theorem readFrameCopy_posted (st : Station) :
    readFrameCopy (s.writeFrameState f .posted).mem f st = readFrameCopy s.mem f st :=
  readFrameCopy_congr f st (fieldsKept_poked _ _ _)

theorem readByte_frameCleared_posted {st : Station} (hs : st ≠ .strip) (a : Nat)
    (h : ¬(Config.frameBase f ≤ a ∧ a < Config.frameBase f + 4)) :
    readByte (frameCleared (s.writeFrameState f .posted).mem f st) a = readByte (frameCleared s.mem f st) a := by
  rw [readByte_frameCleared _ _ _ hs, readByte_frameCleared _ _ _ hs]
  exact if_congr Iff.rfl rfl (readByte_writeWord_of_outside _ _ _ _ (by omega))

/-- What steps 1 to 4 of R130 leave of a posted frame. -/
def State.copied (st : Station) : State :=
  { s with
    mem := frameHeaded (frameCleared (s.writeFrameState f .posted).mem f st) f .none 0 .active
    trays := { s.trays with frames := s.trays.frames.set f (readFrameCopy s.mem f st).opened } }

theorem State.copyFrame_posted (st : Station) : (s.writeFrameState f .posted).copyFrame f st = s.copied f st := by
  rw [State.copyFrame_eq, readFrameCopy_posted]
  rfl

theorem State.copied_frame (st : Station) (k : FrameId) :
    (s.copied f st).frame k = if f = k then (readFrameCopy s.mem f st).opened else s.frame k :=
  State.frame_setFrame s f k _

/-- A frame left ACTIVE: the input activation list and follow-up work come after the copy. -/
theorem State.copied_activated {st : Station} (hs : st ≠ .strip) (inputs : List FrameId) (l : List Task) :
    frameActivated s { s.copied f st with trays := { (s.copied f st).trays with inputs := inputs }, agenda := l } f st false := by
  refine frameActivated_of hs (fun _ => ⟨rfl, rfl, readWord_frameHeaded_state _ _ _ _ _,
    readWord_frameHeaded_reason _ _ _ _ _, ?_⟩) nofun (fun a ha ha' => ?_) fun k hk => ?_
  · exact (State.copied_frame s f st f).trans (if_pos rfl)
  · exact (readByte_frameHeaded _ _ _ _ _ _ ha ha').trans (readByte_frameCleared_posted s f hs a ha)
  · exact (State.copied_frame s f st k).trans (if_neg (Ne.symm hk))

/-- A frame SPENT at once (R142). -/
theorem State.copied_spent {st : Station} (hs : st ≠ .strip) : frameActivated s ((s.copied f st).spend f .complete) f st true := by
  have opened : (s.copied f st).frame f = (readFrameCopy s.mem f st).opened := (State.copied_frame s f st f).trans (if_pos rfl)
  obtain ⟨l, -, -, e⟩ := State.spend_eq (s.copied f st) f .complete
  rw [e]
  refine frameActivated_of hs nofun (fun _ => ⟨State.setFlag_attention _ .tray, readWord_frameHeaded_state _ _ _ _ _, ?_, ?_⟩)
    (fun a ha ha' => ?_) fun k hk => ?_
  · rw [opened]
    exact (readWord_frameHeaded_reason _ _ _ _ _).trans (show packBytes 1 0 0 0 = 1#32 by decide)
  · rw [opened]
    exact (State.frame_setFrame (s.copied f st) f f _).trans (if_pos rfl)
  · exact (readByte_frameHeaded _ _ _ _ _ _ ha ha').trans
      ((readByte_frameHeaded _ _ _ _ _ _ ha ha').trans (readByte_frameCleared_posted s f hs a ha))
  · exact (State.frame_setFrame (s.copied f st) f k _).trans
      ((if_neg (Ne.symm hk)).trans ((State.copied_frame s f st k).trans (if_neg (Ne.symm hk))))

/-- An output frame just copied is complete when no pocket of it is free (R142). -/
theorem FrameCopy.opened_complete (c : FrameCopy) {n : Fin 8} (h : c.station = .output n) :
    c.opened.complete = true ↔ ∀ i : Nat, i < c.size → c.flag i = true := by
  have mark (i : Nat) : c.opened.mark i ≠ .done := by
    by_cases hi : i < c.size <;> simp [FrameRecord.mark, FrameCopy.opened, List.getD_eq_getElem?_getD, hi]
  simp only [FrameRecord.complete, FrameCopy.opened, h, List.all_eq_true, List.mem_range, Bool.or_eq_true, beq_iff_eq]
  exact forall_congr' fun i => imp_congr_right fun _ => or_iff_left (mark i)

end Sys2Proof.Machine
end

section
/-! O33 (continued): a POSTED frame taken (R129 to R131, R142), and a pocket's reservation released. -/

set_option Elab.async false

namespace Sys2Proof.Machine

/-! ### The checks read what the state word does not hold -/

section
variable {m n : List Host.Cell} {f : FrameId} (h : FieldsKept f m n)
include h

theorem FieldsKept.goodTray_iff (g : Geometry) : goodTray n f g ↔ goodTray m f g := by
  unfold goodTray
  rw [h 5 (by omega), h 6 (by omega)]

theorem FieldsKept.postedSize_eq : postedSize n f = postedSize m f := by
  unfold postedSize
  rw [h 5 (by omega), h 6 (by omega)]

theorem FieldsKept.postedFlag_eq (i : Nat) : postedFlag n f i = postedFlag m f i := by
  unfold postedFlag
  rw [Nat.add_assoc, h _ (by omega)]

end

variable (s : State) (f : FrameId)

/-! ### The activation -/

theorem State.activateFrame_input (n : Fin 2) : (s.writeFrameState f .posted).activateFrame f (.input n) =
    { s.copied f (.input n) with
      trays := { (s.copied f (.input n)).trays with inputs := s.trays.inputs ++ [f] }
      agenda := s.agenda ++ [.selectIdle] } := by
  unfold State.activateFrame
  rw [State.copyFrame_posted]
  rfl

theorem State.copied_complete (st : Station) :
    ((s.copied f st).frame f).complete = (readFrameCopy s.mem f st).opened.complete :=
  congrArg FrameRecord.complete ((State.copied_frame s f st f).trans (if_pos rfl))

theorem State.activateFrame_full (n : Fin 8) (h : (readFrameCopy s.mem f (.output n)).opened.complete = true) :
    (s.writeFrameState f .posted).activateFrame f (.output n) = (s.copied f (.output n)).spend f .complete := by
  unfold State.activateFrame
  rw [State.copyFrame_posted]
  exact if_pos ((State.copied_complete s f _).trans h)

theorem State.reportRoom_eq (st : Station) :
    ∃ l : List Task, (∀ x ∈ l, x = .selectIdle) ∧ l.length ≤ 1 ∧ s.reportRoom st = { s with agenda := s.agenda ++ l } := by
  have quiet : ∃ l : List Task, (∀ x ∈ l, x = .selectIdle) ∧ l.length ≤ 1 ∧ s = { s with agenda := s.agenda ++ l } :=
    ⟨[], by simp, by simp, by rw [List.append_nil]⟩
  cases st with
  | input n => exact quiet
  | strip => exact quiet
  | output n =>
    by_cases hb : s.isBound n = true
    · exact ⟨[.selectIdle], by simp, by simp, if_pos hb⟩
    · obtain ⟨l, hl, hn, e⟩ := quiet
      exact ⟨l, hl, hn, (if_neg hb).trans e⟩

theorem State.activateFrame_output (n : Fin 8) (h : (readFrameCopy s.mem f (.output n)).opened.complete = false) :
    ∃ l : List Task, (∀ x ∈ l, x = .selectIdle) ∧ l.length ≤ 1 ∧
      (s.writeFrameState f .posted).activateFrame f (.output n) =
        { s.copied f (.output n) with agenda := s.agenda ++ [.selectIdle] ++ l } := by
  obtain ⟨l, hl, hn, e⟩ := State.reportRoom_eq ((s.copied f (.output n)).push .selectIdle) (.output n)
  refine ⟨l, hl, hn, ?_⟩
  unfold State.activateFrame
  rw [State.copyFrame_posted]
  refine (if_neg ?_).trans e
  rw [State.copied_complete, h]
  exact Bool.false_ne_true

/-! ### A frame in POSTED judged -/

theorem State.takePosted_of_error {r : FrameReason} (h : s.validateFrame f = .error r) : s.takePosted f = s.rejectFrame f r := by
  unfold State.takePosted
  rw [h]

theorem State.takePosted_of_ok {st : Station} (h : s.validateFrame f = .ok st) : s.takePosted f = s.activateFrame f st := by
  unfold State.takePosted
  rw [h]

theorem State.takePosted_judged (hu : s.control.state ≠ .unarmed) (hh : s.control.state ≠ .halted) :
    frameJudged s ((s.writeFrameState f .posted).takePosted f) f := by
  have kept : FieldsKept f s.mem (s.writeFrameState f .posted).mem := fieldsKept_poked _ _ _
  have code := kept 4 (by omega)
  have rejected {r : FrameReason} {code : Word} (hv : (s.writeFrameState f .posted).validateFrame f = .error r)
      (hc : packBytes r.code 0 0 0 = code) : frameRejected s ((s.writeFrameState f .posted).takePosted f) f code := by
    rw [State.takePosted_of_error _ f hv]
    exact State.rejectFrame_rejected s f hu hc
  refine ⟨fun h => rejected (State.validateFrame_badStation hu hh (code ▸ h)) (by decide), fun st hst => ?_⟩
  obtain ⟨stn, hcode, hstrip, hnum⟩ := stationOfCode_of_lt st.isLt
  have geometry : stationGeometry s.cfg stn = s.deck.stations[st.val] := stationGeometry_eq s.cfg hnum _
  obtain ⟨bad, busy, rest⟩ := State.validateFrame_at (s := s.writeFrameState f .posted) hu hh hstrip
    ((congrArg (fun b => stationOfCode b.toNat) code).trans ((congrArg stationOfCode hst).trans hcode))
  have good : goodTray (s.writeFrameState f .posted).mem f (stationGeometry s.cfg stn) ↔
      goodTray s.mem f s.deck.stations[st.val] := by
    rw [kept.goodTray_iff, geometry]
  have taken : (s.writeFrameState f .posted).stationBusy f stn ↔ _ := State.stationBusy_iff s f stn
  rw [hnum] at taken
  refine ⟨fun hg => rejected (bad fun h => hg (good.1 h)) (by decide),
    fun hg hb => rejected (busy (good.2 hg) (taken.2 hb)) (by decide), fun hg hb => ?_⟩
  obtain ⟨output, input⟩ := rest (good.2 hg) fun h => hb (taken.1 h)
  have occupied := any_readOccupancy_iff (good.2 hg).size_le
  simp only [kept.postedSize_eq, kept.postedFlag_eq] at occupied input
  constructor
  · intro n hn
    obtain rfl : stn = .input n := Station.code_inj (hnum.trans hn.symm)
    have run := input n rfl
    constructor
    · intro empty
      refine rejected (run.trans (if_neg fun h => ?_)) (by decide)
      obtain ⟨i, hi, hf⟩ := occupied.1 h
      exact Bool.false_ne_true ((empty i hi).symm.trans hf)
    · intro some
      rw [State.takePosted_of_ok _ f (run.trans (if_pos (occupied.2 some))), State.activateFrame_input]
      exact ⟨State.copied_activated s f hstrip _ _, rfl⟩
  · intro n hn
    obtain rfl : stn = .output n := Station.code_inj (hnum.trans hn.symm)
    have run := output n rfl
    constructor
    · intro unbound
      refine rejected (run.trans (if_neg fun h => ?_)) (by decide)
      obtain ⟨c, hc⟩ := (State.isBound_iff s n).1 h
      exact unbound c hc
    · intro bound
      rw [State.takePosted_of_ok _ f (run.trans (if_pos ((State.isBound_iff s n).2 bound)))]
      have full : (readFrameCopy s.mem f (.output n)).opened.complete = true ↔
          ∀ i : Nat, i < postedSize s.mem f → postedFlag s.mem f i = true := by
        rw [FrameCopy.opened_complete _ rfl]
        refine forall_congr' fun i => imp_congr_right fun hi => ?_
        rw [FrameCopy.flag, postedFlag, ← getLsbD_readOccupancy _ _ _ (hi.trans_le ((goodTray.size_le hg)))]
        rfl
      constructor
      · rintro ⟨i, hi, hf⟩
        have partly : (readFrameCopy s.mem f (.output n)).opened.complete = false :=
          Bool.eq_false_iff.2 fun h => Bool.false_ne_true (hf.symm.trans (full.1 h i hi))
        obtain ⟨l, -, -, e⟩ := State.activateFrame_output s f n partly
        rw [e]
        exact ⟨State.copied_activated s f hstrip _ _, rfl⟩
      · intro all
        rw [State.activateFrame_full s f n (full.2 all)]
        refine ⟨State.copied_spent s f hstrip, ?_⟩
        obtain ⟨l, -, -, e⟩ := State.spend_eq (s.copied f (.output n)) f .complete
        rw [e]
        rfl

/-! ### What else the judgement leaves -/

/-- What taking a POSTED frame changes, and what it leaves to do: the selection alone, after an activation some, after a
rejection none. -/
structure TakenPosted (u : State) : Prop where
  same : u = { s with mem := u.mem, trays := u.trays, regs := u.regs, outbox := u.outbox, agenda := u.agenda }
  regs : u.regs = { s.regs with attention := u.regs.attention, top := u.regs.top, interrupt := u.regs.interrupt }
  work : ∃ l : List Task, u.agenda = s.agenda ++ l ∧ (∀ x ∈ l, x = .selectIdle) ∧ l.length ≤ 2 ∧
    ((u.frame f).state = .active → l ≠ []) ∧ ((u.frame f).state = .rejected → l = [])

/-- No frame passes the checks at STRIP. -/
theorem State.validateFrame_ne_strip : s.validateFrame f ≠ .ok .strip := by
  unfold State.validateFrame
  simp only
  split
  · nofun
  · split
    · nofun
    · nofun
    · next st hs _ =>
      split
      · nofun
      · split
        · nofun
        · split
          · split <;> nofun
          · split
            · exact fun h => hs (Except.ok.inj h)
            · nofun

theorem State.setFlag_regs_kept (c : AttentionClass) : (s.setFlag c).regs = { s.regs with
    attention := (s.setFlag c).regs.attention, top := (s.setFlag c).regs.top, interrupt := (s.setFlag c).regs.interrupt } := by
  conv_rhs => rw [State.setFlag_attention]
  exact State.setFlag_regs s c

theorem State.takePosted_taken (hu : s.control.state ≠ .unarmed) :
    TakenPosted s f ((s.writeFrameState f .posted).takePosted f) := by
  have set (t : State) (r : FrameRecord) (i : List FrameId)
      (ht : t.trays = { inputs := i, frames := s.trays.frames.set f r }) : t.frame f = r := by
    simp [State.frame, ht]
  have copied (st : Station) : ((s.copied f st).frame f).state = .active :=
    congrArg FrameRecord.state ((State.copied_frame s f st f).trans (if_pos rfl))
  have active (st : Station) (inputs : List FrameId) (l : List Task) (hl : ∀ x ∈ l, x = .selectIdle) (hn : l.length ≤ 1) :
      TakenPosted s f { s.copied f st with
        trays := { (s.copied f st).trays with inputs := inputs }, agenda := s.agenda ++ (.selectIdle :: l) } :=
    ⟨rfl, rfl, _, rfl, List.forall_mem_cons.2 ⟨rfl, hl⟩, by simpa using hn, fun _ => List.cons_ne_nil _ _,
      fun h => absurd ((copied st).symm.trans h) (by decide)⟩
  have spent (st : Station) : TakenPosted s f ((s.copied f st).spend f .complete) := by
    obtain ⟨l, hl, hn, e⟩ := State.spend_eq (s.copied f st) f .complete
    have state : (((s.copied f st).spend f .complete).frame f).state = .spent := by
      rw [e]
      exact congrArg FrameRecord.state ((State.frame_setFrame (s.copied f st) f f _).trans (if_pos rfl))
    refine ⟨by rw [e]; rfl, ?_, l, by rw [e]; rfl, hl, by omega, ?_, ?_⟩
    · rw [e]
      exact State.setFlag_regs_kept (s.copied f st) .tray
    · exact fun h => absurd (state.symm.trans h) (by decide)
    · exact fun h => absurd (state.symm.trans h) (by decide)
  cases hv : (s.writeFrameState f .posted).validateFrame f with
  | error r =>
    rw [State.takePosted_of_error _ f hv, State.rejectFrame_eq (s.writeFrameState f .posted) f r hu]
    have state : ∀ t : State, t.trays = { s.trays with
        frames := s.trays.frames.set f { FrameRecord.reset with state := .rejected } } → (t.frame f).state ≠ .active :=
      fun t ht h => absurd ((congrArg FrameRecord.state (set t _ _ ht)).symm.trans h) (by decide)
    exact ⟨rfl, State.setFlag_regs_kept (s.writeFrameState f .posted) .tray, [], (List.append_nil _).symm, nofun,
      Nat.zero_le _, fun h => absurd h (state _ rfl), fun _ => rfl⟩
  | ok st =>
    rw [State.takePosted_of_ok _ f hv]
    cases st with
    | input n =>
      rw [State.activateFrame_input]
      exact active _ _ [] nofun (by decide)
    | output n =>
      cases hc : (readFrameCopy s.mem f (.output n)).opened.complete with
      | true =>
        rw [State.activateFrame_full s f n hc]
        exact spent _
      | false =>
        obtain ⟨l, hl, hn, e⟩ := State.activateFrame_output s f n hc
        rw [e, List.append_assoc]
        exact active _ _ l hl hn
    | strip => exact absurd hv (State.validateFrame_ne_strip _ f)

end Sys2Proof.Machine
end

section
/-! O33 (end): a reservation released, and the POSTED write. -/

set_option Elab.async false

namespace Sys2Proof.Machine

variable (s : State)

/-! ### A reservation released (R132, R137, R140, R143) -/

theorem readByte_eq_readWord (m : List Host.Cell) (a : Nat) : readByte m a = (readWord m a).extractLsb' 0 8 := by
  refine BitVec.eq_of_getLsbD_eq fun j hj => ?_
  rw [BitVec.getLsbD_extractLsb', Nat.zero_add, getLsbD_readWord m a j (by omega), Nat.div_eq_of_lt hj, Nat.mod_eq_of_lt hj]
  simp [hj]

/-- The state with a pocket's mark OPEN again. -/
def State.reopened (f : FrameId) (i : Nat) : State :=
  s.setFrame f { s.frame f with marks := (s.frame f).marks.set i .isOpen }

theorem State.reopened_frame (f : FrameId) (i : Nat) :
    (s.reopened f i).frame f = { s.frame f with marks := (s.frame f).marks.set i .isOpen } :=
  (State.frame_setFrame s f f _).trans (if_pos rfl)

section
variable {s} {f : FrameId} {i : Nat} {h : HeadId}

theorem State.releasePocket_of_other (hm : (s.frame f).marks.getD i .isOpen ≠ .reserved h) : s.releasePocket f i h = s :=
  if_neg hm

theorem State.releasePocket_of_close (hm : (s.frame f).marks.getD i .isOpen = .reserved h) (hc : (s.frame f).state = .close) :
    s.releasePocket f i h = (s.reopened f i).closedTest f := by
  refine (if_pos hm).trans ?_
  simp only [show s.setMark f i .isOpen = s.reopened f i from rfl, State.reopened_frame, hc]

theorem State.releasePocket_of_active {c : FrameCopy} (hm : (s.frame f).marks.getD i .isOpen = .reserved h)
    (ha : (s.frame f).state = .active) (hc : (s.frame f).copy = some c) :
    s.releasePocket f i h = (s.reopened f i).reportRoom c.station := by
  refine (if_pos hm).trans ?_
  simp only [show s.setMark f i .isOpen = s.reopened f i from rfl, State.reopened_frame, ha, hc]

end

/-! ### A POSTED write (R128, R129) -/

theorem State.exec_posted (f : FrameId) (h : readWord s.mem (Config.frameBase f) = 0#32) (ha : s.control.arming = none) :
    exec (.posted f) s = ((s.writeFrameState f .posted).takePosted f).finish := by
  change (s.frameWrite f false 1#32).finish = _
  have accepted : s.frameWrite f false 1#32 = s.acceptPosted f := by simp [State.frameWrite, h]
  have taken : s.acceptPosted f = (s.writeFrameState f .posted).takePosted f := by
    refine if_neg ?_
    change ¬s.control.arming.isSome = true
    simp [ha]
  rw [accepted, taken]

end Sys2Proof.Machine

open Sys2Proof Sys2Proof.Machine in
/-- Settles O33: the checks by `takePosted_judged`, the rest of the state by `takePosted_taken`, and a release by the state of
its frame. -/
theorem postedActivates : Obligations.PostedActivates := by
  refine ⟨fun s f hr ha hu hh h => ?_, fun s f i h => ⟨rfl, State.releasePocket_of_other, fun hm =>
    ⟨fun c hs hc => ?_, fun hs => ?_⟩⟩⟩
  · obtain ⟨same, regs, l, hl, hx, hn, active, rejected⟩ := State.takePosted_taken s f hu
    rw [hr.1, List.nil_append] at hl
    have run := State.exec_posted s f h ha
    have judged := State.takePosted_judged s f hu hh
    generalize (s.writeFrameState f .posted).takePosted f = u at *
    refine ⟨u, run, same, regs, judged, hl ▸ hx, fun h => hl ▸ active h, fun h => hl ▸ rejected h,
      fun hq => ?_⟩
    rw [run]
    have head : u.planner = s.planner := by rw [same]
    have trailing : u.trailing = [] := by rw [same]; exact hr.2
    refine finish_quiet _ (fun g => ?_) trailing (fun x m => .inl ?_) (by rw [hl]; omega)
    · rw [State.head, head]
      exact hq g
    · rw [hx x (hl ▸ m)]
      rfl
  · rw [State.releasePocket_of_active hm hs hc]
    refine ⟨fun n hn => ⟨fun hb => ?_, fun hb => ?_⟩, fun n hn => ?_⟩
    · rw [hn]
      exact if_pos ((State.isBound_iff s n).2 hb)
    · rw [hn]
      exact if_neg fun e => by obtain ⟨k, hk⟩ := (State.isBound_iff s n).1 e; exact hb k hk
    · rw [hn]
      rfl
  · rw [State.releasePocket_of_close hm hs]
    have closed : ((s.reopened f i).frame f).state = .close := by rw [State.reopened_frame]; exact hs
    constructor
    · exact fun hj => State.closedTest_of_reserved _ f ((any_isReserved_iff _).2 hj)
    · intro hj
      rw [State.closedTest_of_none _ f closed (Bool.eq_false_iff.2 fun e => by
        obtain ⟨j, g, hg⟩ := (any_isReserved_iff _).1 e
        exact hj j g hg)]
      obtain ⟨l, -, -, e⟩ := State.spend_eq (s.reopened f i) f .closed
      have frame : ((s.reopened f i).spend f .closed).frame f = { s.frame f with state := .spent, marks := [] } := by
        rw [e]
        refine (State.frame_setFrame (s.reopened f i) f f _).trans ((if_pos rfl).trans ?_)
        rw [State.reopened_frame]
      refine ⟨frame, ?_⟩
      rw [e]
      refine ⟨readWord_frameHeaded_state _ _ _ _ _, ?_, State.setFlag_attention (s.reopened f i) .tray, rfl⟩
      refine (readByte_eq_readWord _ _).trans ?_
      refine (congrArg (BitVec.extractLsb' 0 8) (readWord_frameHeaded_reason _ _ _ _ _)).trans ?_
      exact (packBytes_extract _ _ _ _).1
end

section
/-! SUPPORT. What a dissolution leaves goes on through changes that free more; a dissolution as one update of the state; and the
selections of a RUN in which notices wait and no leg does: they bind nothing (R71). -/

set_option Elab.async false

namespace Sys2Proof.Machine

/-! ### A dissolution carried on -/

theorem Withdrawn.freed {h : HeadId} {s t : State} (w : Withdrawn h s t) : ∀ l ∈ (s.head h).legs, LegFreed h l t :=
  fun l hl => ⟨w.claims l hl, w.strips l hl, w.pockets l hl⟩

/-- Later changes that free, and leave the head's record but for its state, its leg at the arbiter and an unbound site's
request alone. -/
theorem Dissolved.frees {h : HeadId} {s t u : State} (d : Dissolved h s t) (k : Frees t u)
    (hh : ∃ st : HeadState, u.head h = { t.head h with state := st })
    (hw : u.rail.waiting.get h = t.rail.waiting.get h)
    (hb : ∀ i : Site, (t.socket i).bound = none → (u.socket i).bound = none ∧ u.request i = t.request i) :
    Dissolved h s u := by
  obtain ⟨st, hh⟩ := hh
  refine ⟨LegFreed.withdrawn s (fun l hl => (d.freed l hl).mono k) ?_ (hw.trans d.waiting) fun j i hj hi hs => ?_, ?_, ?_⟩
  · rw [hh]
    exact d.units
  · obtain ⟨free, returned⟩ := d.request j i hj hi hs
    obtain ⟨free', kept⟩ := hb i free
    exact ⟨free', kept.trans returned⟩
  · rw [hh]
    exact d.job
  · rw [hh]
    exact d.legs

/-- Of the state it is compared with, only the head, the sites bound to it and the shadow records matter. -/
theorem Dissolved.base {h : HeadId} {r s t : State} (d : Dissolved h s t)
    (hh : ∃ x y : Nat, s.head h = { r.head h with x := x, y := y }) (hc : s.shadow = r.shadow)
    (hb : ∀ i : Site, (r.socket i).bound = some h → s.socket i = r.socket i ∧ s.request i = r.request i) :
    Dissolved h r t := by
  obtain ⟨x, y, hh⟩ := hh
  obtain ⟨⟨units, waiting, claims, strips, pockets, returned⟩, job, legs⟩ := d
  rw [hh] at units claims strips pockets returned
  refine ⟨⟨units, waiting, claims, strips, pockets, fun j i hj hi hs => ?_⟩, job, legs⟩
  obtain ⟨socket, request⟩ := hb i hs
  have := returned j i hj hi (by rwa [socket])
  rwa [State.wanted_congr socket hc, request] at this

/-- Giving a bound request back changes the sites, the planner and what is left to do alone. -/
theorem State.returnRequest_eq (s : State) (h : HeadId) (j : Job) : s.returnRequest h j = { s with
    sites := (s.returnRequest h j).sites
    planner := (s.returnRequest h j).planner
    agenda := (s.returnRequest h j).agenda } := by
  unfold State.returnRequest
  split
  · rfl
  · next i _ =>
    split
    · obtain ⟨q, a, e, -⟩ := s.unbindReturn_eq i j.raised
      rw [e]
      rfl
    · rfl

theorem State.withdraw_released (s : State) (h : HeadId) (d : List Leg) : s.withdraw h d = { s.released h d with
    sites := (s.withdraw h d).sites
    planner := (s.withdraw h d).planner
    agenda := (s.withdraw h d).agenda } := by
  cases hj : (s.head h).job with
  | none => rw [s.withdraw_of_no_job d hj]
  | some j =>
    rw [s.withdraw_of_job d hj]
    exact State.returnRequest_eq _ h j

/-- After the legs are released, a dissolution changes the sites, the planner, the unit records and what is left to do alone. -/
theorem State.dissolve_released (s : State) (h : HeadId) (d kept : List Leg) : s.dissolve h d kept = { s.released h d with
    sites := (s.dissolve h d kept).sites
    planner := (s.dissolve h d kept).planner
    units := { (s.released h d).units with records := (s.dissolve h d kept).units.records }
    agenda := (s.dissolve h d kept).agenda } := by
  obtain ⟨r, l, -, -, e⟩ := State.reroute_eq ((s.withdraw h d).setHead h { (s.withdraw h d).head h with job := none, legs := kept })
  rw [State.dissolve_eq, e, State.withdraw_released]
  rfl

/-! ### RUN with notices waiting and no leg waiting -/

/-- In RUN the holding queue is not empty, and no leg waits at the arbiter. -/
def State.barred (s : State) : Prop :=
  s.control.state = .run ∧ s.board.queue ≠ [] ∧ ∀ h : HeadId, s.rail.waiting.get h = none

section
variable {s : State}

theorem State.barred.select (b : s.barred) (h : HeadId) : s.select h = s := by
  obtain ⟨hr, hq, hw⟩ := b
  have queue : s.board.queue.isEmpty = false := by simpa using hq
  have settled : s.settle h = s := by
    unfold State.settle
    have leg : s.settledHead h = s := by
      have := State.settledHead_of_none (s := s) (h := h.other) (hw _)
      rwa [HeadId.other_other] at this
    rw [leg, State.drainTest_of_ne]
    rw [hr]
    decide
  unfold State.select
  simp only [State.isIn, State.working, hr, queue, settled]
  split <;> rfl

theorem State.barred.selectResting (b : s.barred) : ∃ c : Nat, s.selectResting = { s with choices := c } := by
  have chosen : ∀ h : HeadId, State.select { s with choices := s.choices + 1 } h = { s with choices := s.choices + 1 } :=
    fun h => State.barred.select (s := { s with choices := s.choices + 1 }) b h
  unfold State.selectResting
  split
  · refine ⟨s.choices + 1, ?_⟩
    simp only [State.firstHead, chosen]
  · exact ⟨_, b.select .a⟩
  · exact ⟨_, b.select .b⟩
  · exact ⟨_, rfl⟩

theorem State.barred.runTask (b : s.barred) {x : Task} (hx : x.isSelection = true) :
    ∃ c : Nat, s.runTask x = { s with choices := c } := by
  cases x with
  | selectIdle => exact b.selectResting
  | selectHead h => exact ⟨_, b.select h⟩
  | entered i =>
    have mayBind (t : State) (ht : t.board = s.board) : t.mayBind = false := by
      have : t.board.queue.isEmpty = false := by rw [ht]; simpa using b.2.1
      simp [State.mayBind, this]
    have entered : s.selectEntered i = s.selectResting := by
      unfold State.selectEntered
      rw [mayBind s rfl]
    change ∃ c : Nat, s.requestEntered i = _
    unfold State.requestEntered
    split
    · exact ⟨_, rfl⟩
    · obtain ⟨c, e⟩ := b.selectResting
      refine ⟨c, ?_⟩
      rw [entered, e]
      unfold State.considerPreemption
      rw [mayBind { s with choices := c } rfl, Bool.and_false]
      rfl
  | legEnd _ _ | runEntry | drainTest | expiry _ | hostWord _ _ _ => cases hx

end

/-- However far the selections are done, they change only what waits in line and the choices used up. -/
theorem cascade_barred (n : Nat) (s : State) (b : s.barred) (ha : ∀ x ∈ s.agenda ++ s.trailing, x.isSelection = true) :
    ∃ (l m : List Task) (c : Nat), cascade n s = { s with agenda := l, trailing := m, choices := c } := by
  induction n generalizing s with
  | zero => exact ⟨_, _, _, rfl⟩
  | succ n ih =>
    cases hs : s.agenda with
    | cons x rest =>
      rw [hs] at ha
      obtain ⟨c, hx⟩ := State.barred.runTask (s := { s with agenda := rest }) b (ha x List.mem_cons_self)
      rw [cascade_agenda s n hs, hx]
      exact ih { s with agenda := rest, choices := c } b fun y hy => ha y (List.mem_cons_of_mem _ hy)
    | nil =>
      cases ht : s.trailing with
      | nil => exact ⟨_, _, _, cascade_rest s _ ⟨hs, ht⟩⟩
      | cons x rest =>
        rw [hs, ht] at ha
        obtain ⟨c, hx⟩ := State.barred.runTask (s := { s with trailing := rest }) b (ha x List.mem_cons_self)
        rw [cascade_trailing s n hs ht, hx]
        exact ih { s with trailing := rest, choices := c } b fun y hy => ha y (List.mem_cons_of_mem _ (by rwa [hs] at hy))

theorem State.finish_barred (s : State) (b : s.barred) (ha : ∀ x ∈ s.agenda ++ s.trailing, x.isSelection = true) :
    ∃ (l m : List Task) (c : Nat), s.finish = .next { s with agenda := l, trailing := m, choices := c } := by
  obtain ⟨l, m, c, e⟩ := cascade_barred Config.cascadeFuel s b ha
  exact ⟨l, m, c, congrArg Host.Outcome.next e⟩

end Sys2Proof.Machine
end

section
/-! O35: CLOSE written on ACTIVE (R140, R142, R144, R145). -/

set_option Elab.async false

namespace Sys2Proof.Machine

/-! ### A frame SPENT by its CLOSE -/

/-- Against the state before the CLOSE, the frame is SPENT with reason CLOSED: record, list, head in memory, TRAY. -/
def spentBy (s t : State) (f : FrameId) : Prop :=
  t.trays.inputs = s.trays.inputs.filter (fun g => g != f) ∧
  t.frame f = { s.frame f with state := .spent, marks := [] } ∧ readWord t.mem (Config.frameBase f) = 4#32 ∧
  readWord t.mem (Config.frameBase f + 0x0C) = BitVec.ofNat 32 (2 + 0x100 * ((s.frame f).done % 256)) ∧
  t.regs.attention = s.regs.attention ||| 1#6 ∧
  ∀ a : Nat, ¬(Config.frameBase f ≤ a ∧ a < Config.frameBase f + 4) →
    ¬(Config.frameBase f + 0x0C ≤ a ∧ a < Config.frameBase f + 0x10) → readByte t.mem a = readByte s.mem a

theorem spentBy.of_same {s t u : State} {f : FrameId} (p : spentBy s t f) (hm : u.mem = t.mem := by rfl)
    (ht : u.trays = t.trays := by rfl) (hr : u.regs = t.regs := by rfl) : spentBy s u f := by
  unfold spentBy State.frame at *
  rw [hm, ht, hr]
  exact p

variable (s : State) (f : FrameId)

/-- The state with the frame in CLOSE, in its word and in its record. -/
def State.closing : State := (s.writeFrameState f .close).setFrame f { s.frame f with state := .close }

theorem State.closing_frame : (s.closing f).frame f = { s.frame f with state := .close } :=
  (State.frame_setFrame (s.writeFrameState f .close) f f _).trans (if_pos rfl)

theorem State.closing_word : readWord (s.closing f).mem (Config.frameBase f) = 3#32 :=
  readWord_writeWord_frame s.mem f 0 _ (by omega)

/-- A state that differs from the one in CLOSE at most in the frame's marks, and in neither memory, list nor registers. -/
structure InClose (t : State) : Prop where
  mem : t.mem = (s.closing f).mem
  inputs : t.trays.inputs = s.trays.inputs
  regs : t.regs = s.regs
  frame : ∃ m : List PocketMark, t.frame f = { s.frame f with state := .close, marks := m }

variable {s f}

theorem InClose.spent {t : State} (c : InClose s f t) : spentBy s (t.spend f .closed) f := by
  obtain ⟨l, -, -, e⟩ := State.spend_eq t f .closed
  obtain ⟨m, hf⟩ := c.frame
  have count : (t.frame f).done = (s.frame f).done := by rw [hf]
  rw [e]
  refine ⟨congrArg _ c.inputs, ?_, readWord_frameHeaded_state _ _ _ _ _, ?_, ?_, fun a ha ha' => ?_⟩
  · refine (State.frame_setFrame t f f _).trans ((if_pos rfl).trans ?_)
    rw [hf]
  · exact (readWord_frameHeaded_reason _ _ _ _ _).trans ((packBytes_reason _ _ (by decide)).trans (by rw [count]; rfl))
  · exact (State.setFlag_attention t .tray).trans (by rw [c.regs]; rfl)
  · refine (readByte_frameHeaded _ _ _ _ _ _ ha ha').trans ?_
    rw [c.mem]
    exact readByte_writeWord_of_outside _ _ _ _ (by omega)

theorem closing_inClose : InClose s f (s.closing f) :=
  ⟨rfl, rfl, rfl, _, State.closing_frame s f⟩

/-- The test of R140 in CLOSE, by the marks. -/
theorem InClose.closedTest {t : State} (c : InClose s f t) :
    ((∃ (i : Nat) (h : HeadId), (t.frame f).marks[i]? = some (.reserved h)) → t.closedTest f = t) ∧
    ((∀ (i : Nat) (h : HeadId), (t.frame f).marks[i]? ≠ some (.reserved h)) → t.closedTest f = t.spend f .closed) := by
  obtain ⟨m, hf⟩ := c.frame
  refine ⟨fun hr => State.closedTest_of_reserved t f ((any_isReserved_iff _).2 hr), fun hn => ?_⟩
  refine State.closedTest_of_none t f (by rw [hf]) (Bool.eq_false_iff.2 fun e => ?_)
  obtain ⟨i, h, hi⟩ := (any_isReserved_iff _).1 e
  exact hn i h hi

/-! ### The write -/

variable (s f)

theorem State.exec_close (h : readWord s.mem (Config.frameBase f) = 2#32) : exec (.close f) s = (s.acceptClose f).finish := by
  change (s.frameWrite f false 3#32).finish = _
  have accepted : s.frameWrite f false 3#32 = s.acceptClose f := by simp [State.frameWrite, h]
  rw [accepted]

/-- The next leg of a head, not yet granted, is for the frame. -/
def State.closes (h : HeadId) : Prop :=
  ((s.head h).state = .bound ∨ (s.head h).state = .railWait) ∧ ((s.head h).legs.head?.bind Leg.frame) = some f

variable {s f}

theorem State.closeHead_of_not {h : HeadId} (hn : ¬s.closes f h) : s.closeHead f h = s := if_neg hn

theorem State.closeHead_of {h : HeadId} (hc : s.closes f h) :
    s.closeHead f h = ((s.dissolve h (s.head h).legs []).setHeadState h .idle).push (.selectHead h) := if_pos hc

theorem State.closes_congr {t : State} {h : HeadId} (hh : t.head h = s.head h) : t.closes f h ↔ s.closes f h := by
  unfold State.closes
  rw [hh]

/-- An accepted CLOSE outside UNARMED: the heads whose next leg is for the frame, then the test of R140. -/
theorem State.acceptClose_eq (hu : s.control.state ≠ .unarmed) (ha : (s.frame f).state = .active) :
    s.acceptClose f = (((s.closing f).closeHead f .a).closeHead f .b).closedTest f := by
  have armed : (s.writeFrameState f .close).isIn .unarmed = false := beq_false_of_ne hu
  unfold State.acceptClose
  simp only [armed]
  exact if_pos ha

/-- What the release of a head's pocket of the frame in CLOSE leaves of the frame (R137, R140): SPENT when no other pocket is
reserved, whether by the release itself or by the test after it. -/
theorem State.closing_released {h : HeadId} {n : Nat} {y : State} (hm : y.mem = ((s.closing f).releasePocket f n h).mem)
    (ht : y.trays = ((s.closing f).releasePocket f n h).trays) (hr : y.regs = ((s.closing f).releasePocket f n h).regs) :
    ((∀ (i : Nat) (g : HeadId), (s.frame f).marks[i]? = some (.reserved g) → g = h ∧ i = n) → spentBy s (y.closedTest f) f) ∧
    ((∃ i : Nat, (s.frame f).marks[i]? = some (.reserved h.other)) → y.closedTest f = y ∧ InClose s f y) := by
  have frame : y.frame f = ((s.closing f).releasePocket f n h).frame f := by rw [State.frame, ht]; rfl
  have marks : ((s.closing f).frame f).marks = (s.frame f).marks := by rw [State.closing_frame]
  by_cases held : (s.frame f).marks.getD n .isOpen = .reserved h
  · have run : (s.closing f).releasePocket f n h = ((s.closing f).reopened f n).closedTest f :=
      State.releasePocket_of_close (by rw [marks]; exact held) (by rw [State.closing_frame])
    have reopened : InClose s f ((s.closing f).reopened f n) :=
      ⟨rfl, rfl, rfl, _, (State.reopened_frame _ _ _).trans (by rw [State.closing_frame])⟩
    have left (i : Nat) (g : HeadId) : (((s.closing f).reopened f n).frame f).marks[i]? = some (.reserved g) ↔
        n ≠ i ∧ (s.frame f).marks[i]? = some (.reserved g) := by
      rw [State.reopened_frame, marks, List.getElem?_set]
      by_cases hi : n = i
      · subst hi
        simp
      · simp [hi]
    constructor
    · intro only
      rw [reopened.closedTest.2 fun i g hg => (left i g).1 hg |>.elim fun hi hm => hi (only i g hm).2.symm] at run
      have spent := reopened.spent
      rw [← run] at spent
      have ended : y.closedTest f = y := by
        have : (y.frame f).state = .spent := by rw [frame, spent.2.1]
        simp [State.closedTest, this]
      rw [ended]
      exact spent.of_same hm ht hr
    · rintro ⟨i, hi⟩
      have still : ∃ (i : Nat) (g : HeadId), (((s.closing f).reopened f n).frame f).marks[i]? = some (.reserved g) := by
        refine ⟨i, h.other, (left i _).2 ⟨fun e => ?_, hi⟩⟩
        rw [e, List.getD_eq_getElem?_getD, hi] at held
        exact HeadId.other_ne h (PocketMark.reserved.inj held)
      rw [reopened.closedTest.1 still] at run
      rw [run] at hm ht hr frame
      have kept : InClose s f y := ⟨hm.trans reopened.mem, by rw [ht]; exact reopened.inputs, hr.trans reopened.regs,
        by rw [frame]; exact reopened.frame⟩
      exact ⟨kept.closedTest.1 (by rw [frame]; exact still), kept⟩
  · have run : (s.closing f).releasePocket f n h = s.closing f := State.releasePocket_of_other (by rw [marks]; exact held)
    rw [run] at hm ht hr frame
    have kept : InClose s f y := ⟨hm, by rw [ht]; rfl, hr, by rw [frame]; exact closing_inClose.frame⟩
    constructor
    · intro only
      rw [kept.closedTest.2 fun i g hg => ?_]
      · exact kept.spent
      · rw [frame, marks] at hg
        obtain ⟨rfl, rfl⟩ := only i g hg
        exact held (by rw [List.getD_eq_getElem?_getD, hg]; rfl)
    · rintro ⟨i, hi⟩
      exact ⟨kept.closedTest.1 ⟨i, _, by rw [frame, marks]; exact hi⟩, kept⟩

/-- Of the two heads only the one whose next leg is for the frame is dissolved. -/
theorem State.closeHeads_eq {h : HeadId} (ho : ¬s.closes f h.other) :
    ((s.closeHead f .a).closeHead f .b) = s.closeHead f h := by
  have other (hc : s.closes f .a) : (s.closeHead f .a).head .b = s.head .b := by
    rw [State.closeHead_of hc]
    refine ((State.head_setHead _ .a .b _).trans (if_neg (by decide))).trans ?_
    rw [(State.dissolve_aside (s.head .a).legs []).head]
    exact ((State.head_setHead _ .a .b _).trans (if_neg (by decide))).trans (State.withdraw_head _ _ _ _)
  cases h with
  | a =>
    have hb : ¬s.closes f .b := ho
    by_cases hc : s.closes f .a
    · exact State.closeHead_of_not ((State.closes_congr (other hc)).not.2 hb)
    · rw [State.closeHead_of_not hc, State.closeHead_of_not hb]
  | b =>
    have ha : ¬s.closes f .a := ho
    rw [State.closeHead_of_not ha]

/-! ### The follow-up work -/

/-- Selections in a device state in which no head takes work and none is held back. -/
theorem State.finish_idle (s : State) (hw : s.working = false) (hh : s.control.state ≠ .holding) (ht : s.trailing = [])
    (ha : ∀ x ∈ s.agenda, x.isSelection = true) (hn : s.agenda.length ≤ 1000) :
    ∃ c : Nat, s.finish = .next { s with agenda := [], choices := c } := by
  obtain ⟨n, fuel⟩ : ∃ n : Nat, Config.cascadeFuel = n + s.agenda.length :=
    ⟨100000000 - s.agenda.length, by rw [show Config.cascadeFuel = 100000000 from rfl]; omega⟩
  obtain ⟨c, e⟩ := cascade_idle n s.agenda [] s hw hh ha (List.append_nil _).symm
  refine ⟨c, ?_⟩
  rw [State.finish, fuel, e, cascade_rest { s with agenda := [], choices := c } n ⟨rfl, ht⟩]

/-- What a dissolution leaves shows in the head, the requests, the rail, the units, the frames and the sites. -/
theorem Dissolved.of_same {h : HeadId} {s t u : State} (d : Dissolved h s t) (hh : u.head h = t.head h := by rfl)
    (hq : u.planner.requests = t.planner.requests := by rfl) (hr : u.rail = t.rail := by rfl) (hu : u.units = t.units := by rfl)
    (ht : u.trays = t.trays := by rfl) (hs : u.sites = t.sites := by rfl) : Dissolved h s u := by
  obtain ⟨⟨units, waiting, claims, strips, pockets, returned⟩, job, legs⟩ := d
  rw [← hh] at units job legs
  rw [← hr] at waiting
  unfold State.stripPocket at strips
  unfold State.frame at pockets
  unfold State.socket State.request at returned
  rw [← hu] at claims strips
  rw [← ht] at pockets
  rw [← hs, ← hq] at returned
  exact ⟨⟨units, waiting, claims, strips, pockets, returned⟩, job, legs⟩

/-- A CLOSE that dissolves the job of one head, in RUN with notices waiting: what its follow-up work is done on. -/
theorem State.closing_dissolved {h : HeadId} {l : Leg} {n : Nat} (hr : s.atRest) (hs : s.control.state = .run)
    (hq : s.board.queue ≠ []) (hw : s.rail.waiting.get h.other = none) (hl : (s.head h).legs = [l]) (hf : l.frame = some f)
    (hp : (∃ p : Fin 2, l.location = .input p n) ∨ (∃ p : Fin 8, l.location = .output p n)) :
    let y := (((s.closing f).dissolve h [l] []).setHeadState h .idle).push (.selectHead h)
    let z := y.closedTest f
    z.barred ∧ (∀ x ∈ z.agenda ++ z.trailing, x.isSelection = true) ∧ (z.head h).state = .idle ∧ Dissolved h s z ∧
      z.control = s.control ∧ z.link = s.link ∧
      (y.mem = ((s.closing f).releasePocket f n h).mem ∧ y.trays = ((s.closing f).releasePocket f n h).trays ∧
        y.regs = ((s.closing f).releasePocket f n h).regs) := by
  intro y z
  have aside : Aside y z := State.closedTest_aside y f
  have head : y.head h = { s.head h with state := .idle, job := none, legs := [] } := by
    refine (State.head_setHead_self _ _ _).trans ?_
    rw [State.dissolve_head]
    rfl
  have control : y.control = s.control := State.dissolve_control (s := s.closing f) [l] []
  have link : y.link = s.link := (State.dissolve_aside (s := s.closing f) [l] []).link.trans (State.withdraw_link _ _ _)
  have rail : y.rail = { s.rail with waiting := s.rail.waiting.set h none } :=
    (State.dissolve_aside (s := s.closing f) [l] []).rail.trans (State.withdraw_rail (s.closing f) h [l])
  have board : y.board = s.board := (State.dissolve_chooses (s.closing f) h [l] []).board
  have released : Releases y z := State.closedTest_releases y f
  refine ⟨⟨?_, ?_, fun g => ?_⟩, fun x hx => ?_, ?_, ?_, aside.control.trans control, aside.link.trans link, ?_⟩
  · rw [aside.control, control, hs]
  · rwa [aside.board, board]
  · rw [aside.rail, rail]
    rcases HeadId.eq_or_eq_other h g with e | e
    · rw [← e]
      exact Pair.get_set_self _ _ _
    · rw [e]
      exact (Pair.get_other_set _ _ _).trans hw
  · refine (aside.tasks x hx).elim (fun hx => ?_) id
    have hx : x ∈ (((s.closing f).dissolve h [l] []).agenda ++ [.selectHead h]) ++
        ((s.closing f).dissolve h [l] []).trailing := hx
    rcases List.mem_append.1 hx with hx | hx
    · rcases List.mem_append.1 hx with hx | hx
      · refine ((State.dissolve_chooses (s.closing f) h [l] []).tasks x (List.mem_append_left _ hx)).elim (fun hx => ?_) id
        have hx : x ∈ s.agenda ++ s.trailing := hx
        rw [hr.1, hr.2] at hx
        cases hx
      · rw [List.mem_singleton.1 hx]
        rfl
    · refine ((State.dissolve_chooses (s.closing f) h [l] []).tasks x (List.mem_append_right _ hx)).elim (fun hx => ?_) id
      have hx : x ∈ s.agenda ++ s.trailing := hx
      rw [hr.1, hr.2] at hx
      cases hx
  · rw [aside.head, head]
  · have d := State.dissolve_dissolved (s.closing f) h
    rw [show ((s.closing f).head h).legs = [l] from hl] at d
    refine (d.frees (u := z) ?_ ⟨.idle, ?_⟩ ?_ fun i hi => ⟨?_, ?_⟩).base ⟨_, _, rfl⟩ rfl fun _ _ => ⟨rfl, rfl⟩
    · exact Frees.trans (t := y) (Frees.trans (t := ((s.closing f).dissolve h [l] []).setHeadState h .idle) Frees.of_same
        (State.push_releases _ _).toFrees) released.toFrees
    · rw [aside.head]
      exact State.head_setHead_self _ _ _
    · rw [aside.rail]
      rfl
    · rw [released.socket]
      exact hi
    · rw [released.request]
      rfl
  · have e : (s.closing f).released h [l] = ((s.closing f).releasePocket f n h).setWaiting h none :=
      congrArg (fun t => State.setWaiting t h none) (State.releaseLeg_pocket (s.closing f) h l f n hf hp)
    have shape := State.dissolve_released (s.closing f) h [l] []
    rw [e] at shape
    exact ⟨(congrArg State.mem shape :), (congrArg State.trays shape :), (congrArg State.regs shape :)⟩

end Sys2Proof.Machine

open Sys2Proof Sys2Proof.Machine in
/-- Settles O35: with no head concerned the frame goes into CLOSE and is tested; else one head's job is dissolved, and the
selections that follow bind nothing. -/
theorem closeSpends : Obligations.CloseSpends := by
  intro s f hr h base affected spent
  have run := State.exec_close s f h
  refine ⟨fun hu => ?_, fun hu ha hn => ?_, fun g l n hs ha hg ho hq hw hl hp => ?_⟩
  · have plain : s.acceptClose f = s.writeFrameState f .close :=
      if_pos (show s.isIn .unarmed = true by rw [State.isIn, hu]; rfl)
    rw [run, plain]
    exact State.finish_rest _ hr
  · have heads : s.acceptClose f = (s.closing f).closedTest f := by
      rw [State.acceptClose_eq hu ha, State.closeHeads_eq (s := s.closing f) (h := .a) (hn .b),
        State.closeHead_of_not (s := s.closing f) (hn .a)]
    have marks : ((s.closing f).frame f).marks = (s.frame f).marks := by rw [State.closing_frame]
    obtain ⟨kept, ends⟩ := (closing_inClose (s := s) (f := f)).closedTest
    rw [marks] at kept ends
    rw [run, heads]
    refine ⟨fun hm => ?_, fun hm hq => ?_⟩
    · rw [kept hm]
      exact State.finish_rest _ hr
    · rw [ends hm]
      have spent := (closing_inClose (s := s) (f := f)).spent
      obtain ⟨l, hl, hn, e⟩ := State.spend_eq (s.closing f) f .closed
      have agenda : ((s.closing f).spend f .closed).agenda = l := by
        rw [e]
        exact congrArg (· ++ l) hr.1
      have tasks : ∀ x ∈ ((s.closing f).spend f .closed).agenda, x.isSelection = true := fun x hx => by
        rw [hl x (agenda ▸ hx)]
        rfl
      have trailing : ((s.closing f).spend f .closed).trailing = [] := by
        rw [e]
        exact hr.2
      have control : ((s.closing f).spend f .closed).control = s.control := (State.spend_aside _ _ _).control
      have frames : ∀ k : FrameId, k ≠ f → ((s.closing f).spend f .closed).frame k = s.frame k := fun k hk => by
        rw [e]
        exact (State.frame_setFrame (s.closing f) f k _).trans ((if_neg (Ne.symm hk)).trans
          ((State.frame_setFrame (s.writeFrameState f .close) f k _).trans (if_neg (Ne.symm hk))))
      obtain ⟨c, finished⟩ : ∃ c : Nat, ((s.closing f).spend f .closed).finish =
          .next { (s.closing f).spend f .closed with agenda := [], choices := c } := by
        rcases hq with hq | hq
        · refine ⟨_, finish_quiet _ (fun g => ?_) trailing (fun x hx => .inl (tasks x hx)) (by rw [agenda]; omega)⟩
          rw [(State.spend_aside _ _ _).head]
          exact hq g
        · refine State.finish_idle _ ?_ ?_ trailing tasks (by rw [agenda]; omega)
          · unfold State.working State.isIn
            rw [control]
            rcases hq with hq | hq | hq <;> rw [hq] <;> rfl
          · rw [control]
            rcases hq with hq | hq | hq <;> rw [hq] <;> decide
      refine ⟨_, finished, ?_, frames, spent.of_same⟩
      rw [e, hr.1]
      rfl
  · have live : s.control.state ≠ .unarmed := by rw [hs]; decide
    have frame : l.frame = some f := by
      have := hg.2
      rwa [hl] at this
    obtain ⟨barred, tasks, idle, dissolved, control, link, hm, ht, hv⟩ :=
      State.closing_dissolved hr hs hq hw hl frame hp
    have closed : s.acceptClose f =
        ((((s.closing f).dissolve g [l] []).setHeadState g .idle).push (.selectHead g)).closedTest f := by
      rw [State.acceptClose_eq live ha, State.closeHeads_eq (s := s.closing f) ho, State.closeHead_of (s := s.closing f) hg,
        show ((s.closing f).head g).legs = [l] from hl]
    obtain ⟨only, other⟩ := State.closing_released hm ht hv
    obtain ⟨a, b, c, finished⟩ := State.finish_barred _ barred tasks
    rw [← closed] at finished idle dissolved control link only other
    refine ⟨_, run.trans finished, idle, dissolved.of_same, control, link, fun hn => (only hn).of_same, fun hn => ?_⟩
    obtain ⟨same, kept⟩ := other hn
    rw [← same] at kept
    obtain ⟨m, hf⟩ := kept.frame
    refine ⟨congrArg FrameRecord.state hf, ?_⟩
    change readWord (s.acceptClose f).mem base = _
    rw [kept.mem]
    exact State.closing_word s f
end

section
/-! O28: an accepted HOLD (R75, R176, R177). Each head is brought to rest on its own; the test of R177 comes once, at the end. -/

set_option Elab.async false

namespace Sys2Proof.Machine

/-! ### The test of R177 -/

/-- Nothing is under way: both heads STOPPED, both command records empty. -/
def State.atHold (s : State) : Prop := (∀ h : HeadId, (s.head h).state = .stopped) ∧ s.link = ⟨.empty, .empty⟩

theorem CommandRecord.isEmpty_iff (c : CommandRecord) : c.isEmpty = true ↔ c = .empty := by
  cases c <;> simp [CommandRecord.isEmpty]

theorem State.linkQuiet_iff (s : State) : s.linkQuiet = true ↔ s.link = ⟨.empty, .empty⟩ := by
  simp only [State.linkQuiet, Bool.and_eq_true, CommandRecord.isEmpty_iff]
  constructor
  · rintro ⟨ha, hb⟩
    exact (Pair.mk.injEq ..).mpr ⟨ha, hb⟩
  · intro e
    rw [e]
    exact ⟨rfl, rfl⟩

section
variable {s : State}

/-- HELD, with hold acknowledge and STATE. -/
def State.holdDone (s : State) : State :=
  { s with control := { s.control with state := .held, holdAck := true } }.setFlag .state

theorem State.holdDone_eq (s : State) : s.holdDone = { s with
    control := { s.control with state := .held, holdAck := true }
    regs := (s.setFlag .state).regs
    outbox := (s.setFlag .state).outbox } :=
  State.setFlag_congr (s := s) (t := { s with control := { s.control with state := .held, holdAck := true } }) .state rfl rfl

theorem State.holdTest_of_complete (hs : s.control.state = .holding) (hq : s.atHold) : s.holdTest = s.holdDone := by
  refine if_pos ?_
  rw [State.isIn_eq_true hs, (State.bothHeads_iff s .stopped).2 hq.1, s.linkQuiet_iff.2 hq.2]
  rfl

theorem State.holdTest_of_not (h : ¬(s.control.state = .holding ∧ s.atHold)) : s.holdTest = s := by
  refine if_neg fun e => h ?_
  simp only [Bool.and_eq_true, State.isIn_iff, State.bothHeads_iff, State.linkQuiet_iff] at e
  exact ⟨e.1.1, e.1.2, e.2⟩

theorem State.holdTest_cases (s : State) : s.holdTest = s ∨ (s.control.state = .holding ∧ s.atHold ∧ s.holdTest = s.holdDone) := by
  by_cases h : s.control.state = .holding ∧ s.atHold
  · exact .inr ⟨h.1, h.2, State.holdTest_of_complete h.1 h.2⟩
  · exact .inl (State.holdTest_of_not h)

theorem State.holdTest_holdTest (s : State) : s.holdTest.holdTest = s.holdTest := by
  rcases s.holdTest_cases with e | ⟨hs, hq, e⟩
  · rw [e, e]
  · rw [e]
    refine State.holdTest_of_ne s.holdDone ?_
    rw [State.holdDone_eq]
    exact (by decide : DeviceState.held ≠ .holding)

/-- The test changes the device state with its flag alone. -/
theorem State.holdTest_eq (s : State) : s.holdTest = { s with
    control := s.holdTest.control, regs := s.holdTest.regs, outbox := s.holdTest.outbox } := by
  rcases s.holdTest_cases with e | ⟨-, -, e⟩
  · rw [e]
  · rw [e, State.holdDone_eq]

theorem State.holdTest_result (s : State) : s.holdTest.regs.result = s.regs.result := by
  rcases s.holdTest_cases with e | ⟨-, -, e⟩
  · rw [e]
  · rw [e, State.holdDone_eq]
    exact (congrArg Registers.result (State.setFlag_regs s .state) :)

@[simp] theorem State.holdTest_head (s : State) (h : HeadId) : s.holdTest.head h = s.head h := by
  rw [State.holdTest_eq]
  rfl

end

/-! ### One head brought to rest -/

/-- What a hold does to a head, the test of R177 left out (R75). -/
def State.stopHead (s : State) (h : HeadId) : State :=
  match (s.head h).state with
  | .idle | .binWait => s.setHeadState h .stopped
  | .bound | .railWait | .socketWait => (s.dissolve h (s.head h).legs []).setHeadState h .stopped
  | .moving | .acting | .yielding | .stopped => s

/-- The head's job is not under way (R75). -/
def HeadState.pausing (st : HeadState) : Prop := st = .bound ∨ st = .railWait ∨ st = .socketWait

/-- The head is at rest. -/
def HeadState.resting (st : HeadState) : Prop := st = .idle ∨ st = .binWait ∨ st = .stopped

theorem HeadState.holds (st : HeadState) : st.pausing ∨ st.resting ∨ st.inFlight = true := by
  unfold HeadState.pausing HeadState.resting
  cases st <;> simp [HeadState.inFlight]

theorem HeadState.pausing.not_flight {st : HeadState} (h : st.pausing) : st.inFlight ≠ true := by
  rcases h with rfl | rfl | rfl <;> decide

theorem HeadState.resting.not_flight {st : HeadState} (h : st.resting) : st.inFlight ≠ true := by
  rcases h with rfl | rfl | rfl <;> decide

theorem HeadState.pausing.not_resting {st : HeadState} (h : st.pausing) : ¬st.resting := by
  rcases h with rfl | rfl | rfl <;> unfold HeadState.resting <;> decide

/-- What a hold leaves of one head, and of the rest of the state. -/
structure HeadStopped (h : HeadId) (s t : State) : Prop where
  control : t.control = s.control
  link : t.link = s.link
  other : t.head h.other = s.head h.other
  waits : t.rail.waiting.get h.other = s.rail.waiting.get h.other
  frees : Frees s t
  unbound : ∀ i : Site, (s.socket i).bound ≠ some h → t.socket i = s.socket i ∧ t.request i = s.request i
  result : t.regs.result = s.regs.result
  tasks : ∀ x ∈ t.agenda ++ t.trailing, x ∈ s.agenda ++ s.trailing ∨ x.isSelection = true
  pausing : (s.head h).state.pausing → (t.head h).state = .stopped ∧ Dissolved h s t
  resting : (s.head h).state.resting → t.head h = { s.head h with state := .stopped }
  flight : (s.head h).state.inFlight = true → t.head h = s.head h

theorem HeadStopped.of_flight {h : HeadId} {s : State} (hf : (s.head h).state.inFlight = true) : HeadStopped h s s :=
  ⟨rfl, rfl, rfl, rfl, Frees.refl s, fun _ _ => ⟨rfl, rfl⟩, rfl, fun _ => .inl,
    fun hp => absurd hf hp.not_flight, fun hr => absurd hf hr.not_flight, fun _ => rfl⟩

theorem HeadStopped.of_resting {h : HeadId} {s t : State} (hr : (s.head h).state.resting) (ht : t = s.setHeadState h .stopped) :
    HeadStopped h s t := by
  subst ht
  refine ⟨rfl, rfl, (State.head_setHead _ h _ _).trans (if_neg (HeadId.other_ne h)), rfl, Frees.of_same, fun _ _ => ⟨rfl, rfl⟩,
    rfl, fun _ => .inl, fun hp => absurd hr hp.not_resting, fun _ => State.head_setHead_self _ _ _,
    fun hf => absurd hf hr.not_flight⟩

theorem State.dissolve_frees (s : State) (h : HeadId) (d kept : List Leg) : Frees s (s.dissolve h d kept) := by
  rw [State.dissolve_eq]
  exact (s.withdraw_frees h d).trans (Frees.trans Frees.of_same (State.reroute_frees _))

/-- The result of the last request stays (R150). -/
theorem State.dissolve_result (s : State) (h : HeadId) (d kept : List Leg) :
    (s.dissolve h d kept).regs.result = s.regs.result := by
  refine Path.relates (R := fun a b => b.regs.result = a.regs.result) rfl (fun t u m e => ?_)
    (State.dissolve_path (sc := .work) s h d kept)
  obtain ⟨-, -, result, -⟩ := m.work
  exact result.trans e

theorem HeadStopped.of_pausing {h : HeadId} {s : State} (hp : (s.head h).state.pausing) :
    HeadStopped h s ((s.dissolve h (s.head h).legs []).setHeadState h .stopped) := by
  have aside := State.dissolve_aside (s := s) (h := h) (s.head h).legs []
  have d := s.dissolve_dissolved h
  have control : (s.dissolve h (s.head h).legs []).control = s.control := State.dissolve_control _ _
  have rested : Frees (s.dissolve h (s.head h).legs []) ((s.dissolve h (s.head h).legs []).setHeadState h .stopped) :=
    Frees.of_same
  refine ⟨control, aside.link.trans (State.withdraw_link _ _ _), ?_, ?_, ?_, fun i hi => ?_, ?_, ?_, fun _ => ⟨?_, ?_⟩,
    fun hr => absurd hr hp.not_resting, fun hf => absurd hf hp.not_flight⟩
  · refine (State.head_setHead _ h _ _).trans ((if_neg (HeadId.other_ne h)).trans ?_)
    rw [aside.head]
    exact (State.head_setHead _ h _ _).trans ((if_neg (HeadId.other_ne h)).trans (State.withdraw_head _ _ _ _))
  · change (s.dissolve h (s.head h).legs []).rail.waiting.get h.other = _
    rw [aside.rail]
    exact (State.withdraw_only _).waiting
  · exact (s.dissolve_frees h _ _).trans rested
  · obtain ⟨hs, hq⟩ := s.dissolve_request h (s.head h).legs [] i
    obtain ⟨ks, kq⟩ := s.withdraw_unbound h (s.head h).legs i hi
    exact ⟨hs.trans ks, hq.trans kq⟩
  · exact s.dissolve_result h _ _
  · exact (State.dissolve_chooses s h _ _).tasks
  · exact State.setHeadState_state _
  · exact d.frees rested ⟨.stopped, State.head_setHead_self _ _ _⟩ rfl fun _ hi => ⟨hi, rfl⟩

theorem State.stopHead_headStopped (s : State) (h : HeadId) : HeadStopped h s (s.stopHead h) := by
  unfold State.stopHead
  split
  · next e => exact .of_resting (.inl e) rfl
  · next e => exact .of_resting (.inr (.inl e)) rfl
  · next e => exact .of_pausing (.inl e)
  · next e => exact .of_pausing (.inr (.inl e))
  · next e => exact .of_pausing (.inr (.inr e))
  · next e => exact .of_flight (by rw [e]; rfl)
  · next e => exact .of_flight (by rw [e]; rfl)
  · next e => exact .of_flight (by rw [e]; rfl)
  · next e => exact .of_resting (.inr (.inr e)) (by rw [← e, State.setHeadState_self])

/-- At most the test of R177 separates the two. -/
theorem State.holdHead_stopHead {s : State} (h : HeadId) (hs : s.control.state = .holding) :
    s.holdHead h = s.stopHead h ∨ (s.holdHead h = (s.stopHead h).holdTest) := by
  have halts (t : State) (ht : t.control = s.control) : t.restAfterJob h = (t.setHeadState h .stopped).holdTest := by
    refine if_neg ?_
    rw [State.working_iff, ht, hs]
    decide
  cases e : (s.head h).state with
  | idle | binWait => exact .inr (by simp only [State.holdHead, State.stopHead, e])
  | bound | railWait | socketWait =>
    refine .inr ?_
    simp only [State.holdHead, State.stopHead, e]
    exact halts _ (State.dissolve_control _ _)
  | moving | acting | yielding | stopped => exact .inl (by simp only [State.holdHead, State.stopHead, e])

theorem State.holdHead_of_stopped {s : State} {h : HeadId} (e : (s.head h).state = .stopped) :
    s.holdHead h = s ∧ s.stopHead h = s := by
  unfold State.holdHead State.stopHead
  rw [e]
  exact ⟨rfl, rfl⟩

/-- The entry to HOLDING tests once, after both heads. -/
theorem State.holdHeads_eq {s : State} (hs : s.control.state = .holding) :
    ((s.holdHead .a).holdHead .b).holdTest = ((s.stopHead .a).stopHead .b).holdTest := by
  have last (t : State) (ht : t.control.state = .holding) : (t.holdHead .b).holdTest = (t.stopHead .b).holdTest := by
    rcases State.holdHead_stopHead .b ht with e | e <;> rw [e]
    rw [State.holdTest_holdTest]
  have first : (s.stopHead .a).control.state = .holding := by rw [(s.stopHead_headStopped .a).control, hs]
  rcases State.holdHead_stopHead .a hs with e | e
  · rw [e]
    exact last _ first
  · rw [e]
    rcases (s.stopHead .a).holdTest_cases with e | ⟨-, hq, -⟩
    · rw [e]
      exact last _ first
    · have hb : ((s.stopHead .a).holdTest.head .b).state = .stopped := by
        rw [State.holdTest_head]
        exact hq.1 .b
      rw [(State.holdHead_of_stopped hb).1, (State.holdHead_of_stopped (hq.1 .b)).2, State.holdTest_holdTest]

end Sys2Proof.Machine
end

section
/-! O28 (continued): both heads brought to rest, and the HOLD request. -/

set_option Elab.async false

namespace Sys2Proof.Machine

section
variable {h : HeadId} {s t u : State}

/-- What a hold of the head taken first leaves stays when the other head is taken. -/
theorem HeadStopped.dissolved_first (x : HeadStopped h s t) (y : HeadStopped h.other t u) (hp : (s.head h).state.pausing) :
    Dissolved h s u := by
  have head : u.head h = t.head h := HeadId.other_other h ▸ y.other
  have waits : u.rail.waiting.get h = t.rail.waiting.get h := HeadId.other_other h ▸ y.waits
  refine (x.pausing hp).2.frees y.frees ⟨(t.head h).state, head⟩ waits fun i hi => ?_
  obtain ⟨socket, request⟩ := y.unbound i (by rw [hi]; nofun)
  exact ⟨by rw [socket, hi], request⟩

theorem HeadStopped.dissolved_second (x : HeadStopped h s t) (y : HeadStopped h.other t u)
    (hp : (s.head h.other).state.pausing) : Dissolved h.other s u := by
  refine (y.pausing (by rwa [x.other])).2.base ⟨_, _, x.other⟩ x.frees.shadow fun i hi => x.unbound i ?_
  rw [hi]
  exact fun e => HeadId.other_ne h (Option.some.inj e)

end

/-- Both heads brought to rest in HOLDING, the test of R177 left out. -/
structure BothStopped (s t : State) : Prop where
  control : t.control = s.control
  link : t.link = s.link
  shadow : t.shadow = s.shadow
  result : t.regs.result = s.regs.result
  tasks : ∀ x ∈ t.agenda ++ t.trailing, x ∈ s.agenda ++ s.trailing ∨ x.isSelection = true
  pausing : ∀ h : HeadId, (s.head h).state.pausing → (t.head h).state = .stopped ∧ Dissolved h s t
  resting : ∀ h : HeadId, (s.head h).state.resting → t.head h = { s.head h with state := .stopped }
  flight : ∀ h : HeadId, (s.head h).state.inFlight = true → t.head h = s.head h

theorem State.stopHeads_bothStopped (s : State) : BothStopped s ((s.stopHead .a).stopHead .b) := by
  have x := s.stopHead_headStopped .a
  have y := (s.stopHead .a).stopHead_headStopped .b
  refine ⟨y.control.trans x.control, y.link.trans x.link, y.frees.shadow.trans x.frees.shadow, y.result.trans x.result,
    fun t ht => (y.tasks t ht).elim (x.tasks t) .inr, fun h hp => ?_, fun h hr => ?_, fun h hf => ?_⟩
  · cases h with
    | a => exact ⟨(congrArg HeadRecord.state y.other).trans (x.pausing hp).1, x.dissolved_first y hp⟩
    | b => exact ⟨(y.pausing (x.other ▸ hp)).1, x.dissolved_second y hp⟩
  · cases h with
    | a => exact y.other.trans (x.resting hr)
    | b => exact (y.resting (x.other ▸ hr)).trans (congrArg (fun r => { r with state := .stopped }) x.other)
  · cases h with
    | a => exact y.other.trans (x.flight hf)
    | b => exact (y.flight (x.other ▸ hf)).trans x.other

section
variable {s t : State} (b : BothStopped s t)
include b

theorem BothStopped.state (h : HeadId) :
    (t.head h).state = if (s.head h).state.inFlight = true then (s.head h).state else .stopped := by
  rcases (s.head h).state.holds with hp | hr | hf
  · rw [if_neg hp.not_flight, (b.pausing h hp).1]
  · rw [if_neg hr.not_flight, b.resting h hr]
  · rw [if_pos hf, b.flight h hf]

theorem BothStopped.noTakers : t.noTakers := by
  intro h
  rw [b.state h]
  cases (s.head h).state <;> decide

theorem BothStopped.atHold_iff : t.atHold ↔ (∀ h : HeadId, (s.head h).state.inFlight = false) ∧ s.link = ⟨.empty, .empty⟩ := by
  refine and_congr (forall_congr' fun h => ?_) (by rw [b.link])
  rw [b.state h]
  cases (s.head h).state <;> decide

/-- The test of R177 after it, and selections that no head takes. -/
theorem BothStopped.heldBack {r : State} (hr : r.planner = s.planner) (hs : r.sites = s.sites) (hc : r.shadow = s.shadow)
    (hl : r.link = s.link) (hd : s.control = { r.control with state := .holding }) (l m : List Task) :
    HeldBack r { t.holdTest with agenda := l, trailing := m } := by
  have head (h : HeadId) : r.head h = s.head h := by rw [State.head, hr]; rfl
  have after : ∀ h : HeadId, State.head { t.holdTest with agenda := l, trailing := m } h = t.head h := t.holdTest_head
  have holding : t.control.state = .holding := by rw [b.control, hd]
  have same := t.holdTest_eq
  refine ⟨?_, fun h hp => ?_, fun h hq => ?_, fun h hf => ?_, fun hf he => ?_, fun hn => ?_⟩
  · rw [same]
    exact b.link.trans hl.symm
  · obtain ⟨stopped, d⟩ := b.pausing h (head h ▸ hp)
    refine ⟨by rw [after, stopped], ?_⟩
    have base : Dissolved h r t := by
      refine d.base ⟨_, _, (head h).symm⟩ hc.symm fun i _ => ⟨?_, ?_⟩
      · rw [State.socket, ← hs]
        rfl
      · rw [State.request, ← hr]
        rfl
    rw [same]
    exact base.of_same
  · rw [after, b.resting h (head h ▸ hq), head]
  · rw [after, b.flight h (head h ▸ hf), head]
  · have complete : t.holdTest = t.holdDone :=
      State.holdTest_of_complete holding (b.atHold_iff.2 ⟨fun h => head h ▸ hf h, hl ▸ he⟩)
    rw [complete]
    refine ⟨?_, State.setFlag_bit _ .state⟩
    rw [State.holdDone_eq]
    exact (congrArg (fun c => { c with state := .held, holdAck := true }) (b.control.trans hd)).trans rfl
  · have waits : t.holdTest = t := by
      refine State.holdTest_of_not fun e => ?_
      obtain ⟨rest, quiet⟩ := b.atHold_iff.1 e.2
      rcases hn with ⟨h, hf⟩ | hn
      · rw [head, rest h] at hf
        cases hf
      · exact hn (hl.trans quiet)
    rw [waits]
    exact b.control.trans hd

end

end Sys2Proof.Machine

open Sys2Proof Sys2Proof.Machine in
/-- Settles O28: both heads are brought to rest one after the other, the test of R177 comes once at the end, and no head is left
to take a selection. -/
theorem holdRequest : Obligations.HoldRequest := by
  refine ⟨fun s v hr hs => ?_, fun s => ⟨fun h => ?_, fun h => State.holdTest_of_not h⟩⟩
  · let r := ((s.setThreshold v).setResult 0).setDevice .holding
    have b : BothStopped r ((r.stopHead .a).stopHead .b) := r.stopHeads_bothStopped
    have threshold := State.setThreshold_eq s v
    have working : (s.setThreshold v).working = true := by
      rw [State.working_iff, threshold]
      exact hs
    have run : exec (.hold v) s = ((r.stopHead .a).stopHead .b).holdTest.finish := by
      change (s.setThreshold v).requestHold.finish = _
      rw [State.requestHold, if_pos working]
      exact congrArg State.finish (State.holdHeads_eq (s := r) rfl)
    have after := ((r.stopHead .a).stopHead .b).holdTest_eq
    obtain ⟨l, m, finished⟩ := State.finish_unseen ((r.stopHead .a).stopHead .b).holdTest
      (fun h => by rw [State.holdTest_head]; exact b.noTakers h) (fun x hx => by
        rw [after] at hx
        refine (b.tasks x hx).elim (fun hx => ?_) id
        have hx : x ∈ (s.setThreshold v).agenda ++ (s.setThreshold v).trailing := hx
        rw [threshold] at hx
        have hx : x ∈ s.agenda ++ s.trailing := hx
        rw [hr.1, hr.2] at hx
        cases hx)
    refine ⟨_, run.trans finished, ?_, ?_, b.heldBack ?_ ?_ ?_ ?_ ?_ l m⟩
    · exact (State.holdTest_result _).trans b.result
    · rw [after]
      exact b.shadow.trans (by change (s.setThreshold v).shadow = _; rw [threshold])
    · change s.planner = (s.setThreshold v).planner
      rw [threshold]
    · change s.sites = (s.setThreshold v).sites
      rw [threshold]
    · change s.shadow = (s.setThreshold v).shadow
      rw [threshold]
    · change s.link = (s.setThreshold v).link
      rw [threshold]
    · change { (s.setThreshold v).control with state := .holding } = _
      rw [threshold]
  · exact State.holdTest_of_complete h.1 ⟨h.2.1, h.2.2⟩
end

section
/-! O16: a matched ARRIVED outside HALTED (R55, R64, R84, R113, R114, R118). -/

set_option Elab.async false

namespace Sys2Proof.Machine

/-! ### Selections in HOLDING and HELD: another resting head stops (R75) -/

/-- A hold goes on or is complete, and the head has stopped. -/
def State.stoppedIn (s : State) (h : HeadId) : Prop :=
  (s.control.state = .holding ∨ s.control.state = .held) ∧ (s.head h).state = .stopped

/-- The other head may stop, and the hold be complete: the rest stands. -/
structure Settled (h : HeadId) (s t : State) : Prop where
  device : t.control.state = .holding ∨ t.control.state = .held
  head : t.head h = s.head h
  requests : t.planner.requests = s.planner.requests
  rail : t.rail = s.rail
  units : t.units = s.units
  trays : t.trays = s.trays
  sites : t.sites = s.sites
  link : t.link = s.link
  outbox : ∃ l : List Message, t.outbox = s.outbox ++ l ∧ ∀ m ∈ l, m = .interrupt

section
variable {h : HeadId} {s t u : State}

theorem State.stoppedIn.settled (k : s.stoppedIn h) : Settled h s s :=
  ⟨k.1, rfl, rfl, rfl, rfl, rfl, rfl, rfl, [], (List.append_nil _).symm, nofun⟩

theorem Settled.stoppedIn (x : Settled h s t) (k : s.stoppedIn h) : t.stoppedIn h := ⟨x.device, by rw [x.head]; exact k.2⟩

theorem Settled.trans (x : Settled h s t) (y : Settled h t u) : Settled h s u := by
  obtain ⟨l, hl, al⟩ := x.outbox
  obtain ⟨m, hm, am⟩ := y.outbox
  exact ⟨y.device, y.head.trans x.head, y.requests.trans x.requests, y.rail.trans x.rail, y.units.trans x.units,
    y.trays.trans x.trays, y.sites.trans x.sites, y.link.trans x.link, l ++ m, by rw [hm, hl, List.append_assoc],
    fun x hx => (List.mem_append.1 hx).elim (al x) (am x)⟩

/-- What waits in line is no part of it. -/
theorem Settled.lined (x : Settled h s t) (l m : List Task) : Settled h { s with agenda := l, trailing := m } t :=
  ⟨x.device, x.head, x.requests, x.rail, x.units, x.trays, x.sites, x.link, x.outbox⟩

theorem Settled.dissolved {r : State} (x : Settled h s t) (d : Dissolved h r s) : Dissolved h r t :=
  d.of_same x.head x.requests x.rail x.units x.trays x.sites

/-- The test of R177 in HOLDING or HELD. -/
theorem State.holdTest_settled (hd : s.control.state = .holding ∨ s.control.state = .held) : Settled h s s.holdTest := by
  rcases s.holdTest_cases with e | ⟨-, -, e⟩
  · rw [e]
    exact ⟨hd, rfl, rfl, rfl, rfl, rfl, rfl, rfl, [], (List.append_nil _).symm, nofun⟩
  · rw [e, State.holdDone_eq]
    exact ⟨.inr rfl, rfl, rfl, rfl, rfl, rfl, rfl, rfl, State.setFlag_outbox s .state⟩

theorem State.holdTest_lines (s : State) : s.holdTest.agenda = s.agenda ∧ s.holdTest.trailing = s.trailing := by
  rw [State.holdTest_eq]
  exact ⟨rfl, rfl⟩

/-- A step of the follow-up work that settles and leaves the line as it is. -/
def Settles (h : HeadId) (s t : State) : Prop := Settled h s t ∧ t.agenda = s.agenda ∧ t.trailing = s.trailing

theorem State.stoppedIn.select (k : s.stoppedIn h) (g : HeadId) : Settles h s (s.select g) := by
  have same : Settles h s s := ⟨k.settled, rfl, rfl⟩
  by_cases hr : s.isResting g = true
  · have other : g = h.other := (HeadId.eq_or_eq_other h g).resolve_left fun e => by
      rw [State.isResting_iff, e, k.2] at hr
      rcases hr with e | e <;> cases e
    subst other
    rcases k.1 with hs | hs
    · have run : s.select h.other = (s.setHeadState h.other .stopped).holdTest := by
        unfold State.select
        rw [hr, State.isIn_eq_true hs]
        rfl
      have stopped : Settled h s (s.setHeadState h.other .stopped) :=
        ⟨.inl hs, (State.head_setHead s h.other h _).trans (if_neg (HeadId.ne_other h)), rfl, rfl, rfl, rfl, rfl, rfl,
          [], (List.append_nil _).symm, nofun⟩
      rw [run]
      exact ⟨stopped.trans (State.holdTest_settled stopped.device), State.holdTest_lines _⟩
    · have idle : s.working = false := by
        rw [← Bool.not_eq_true, State.working_iff, hs]
        decide
      rw [State.select_of_idle idle (by rw [hs]; decide)]
      exact same
  · have run : s.select g = s := by
      unfold State.select
      rw [Bool.not_eq_true] at hr
      rw [hr]
      rfl
    rw [run]
    exact same

theorem State.stoppedIn.selectResting (k : s.stoppedIn h) : Settles h s s.selectResting := by
  have awake : s.isResting h = false := by
    rw [← Bool.not_eq_true, State.isResting_iff, k.2]
    rintro (e | e) <;> cases e
  have run : s.selectResting = s.select .a ∨ s.selectResting = s.select .b ∨ s.selectResting = s := by
    unfold State.selectResting
    cases h with
    | a => cases s.isResting .b <;> simp [awake]
    | b => cases s.isResting .a <;> simp [awake]
  rcases run with e | e | e <;> rw [e]
  · exact k.select .a
  · exact k.select .b
  · exact ⟨k.settled, rfl, rfl⟩

theorem State.stoppedIn.runTask (k : s.stoppedIn h) {x : Task} (hx : x.isSelection = true) : Settles h s (s.runTask x) := by
  cases x with
  | selectIdle => exact k.selectResting
  | selectHead g => exact k.select g
  | entered i =>
    have mayBind (t : State) (ht : t.control.state = .holding ∨ t.control.state = .held) : t.mayBind = false := by
      have idle : t.working = false := by
        rw [← Bool.not_eq_true, State.working_iff]
        rcases ht with e | e <;> rw [e] <;> decide
      rw [State.mayBind, idle, Bool.false_and]
    have entered : s.selectEntered i = s.selectResting := by
      unfold State.selectEntered
      rw [mayBind s k.1]
    change Settles h s (s.requestEntered i)
    unfold State.requestEntered
    split
    · exact ⟨k.settled, rfl, rfl⟩
    · rw [entered]
      unfold State.considerPreemption
      rw [mayBind _ k.selectResting.1.device, Bool.and_false]
      exact k.selectResting
  | legEnd _ _ | runEntry | drainTest | expiry _ | hostWord _ _ _ => cases hx

end

theorem cascade_settled {h : HeadId} (n : Nat) (s : State) (k : s.stoppedIn h)
    (ha : ∀ x ∈ s.agenda ++ s.trailing, x.isSelection = true) : Settled h s (cascade n s) := by
  induction n generalizing s with
  | zero => exact k.settled
  | succ n ih =>
    cases hs : s.agenda with
    | cons x rest =>
      rw [hs] at ha
      obtain ⟨run, agenda, trailing⟩ := State.stoppedIn.runTask (s := { s with agenda := rest }) k (ha x List.mem_cons_self)
      rw [cascade_agenda s n hs]
      refine Settled.trans (run.lined s.agenda s.trailing) (ih _ (run.stoppedIn k) fun y hy => ha y (List.mem_cons_of_mem _ ?_))
      rwa [agenda, trailing] at hy
    | nil =>
      cases ht : s.trailing with
      | nil =>
        rw [cascade_rest s _ ⟨hs, ht⟩]
        exact k.settled
      | cons x rest =>
        rw [hs, ht] at ha
        obtain ⟨run, agenda, trailing⟩ :=
          State.stoppedIn.runTask (s := { s with trailing := rest }) k (ha x List.mem_cons_self)
        rw [cascade_trailing s n hs ht]
        refine Settled.trans (run.lined s.agenda s.trailing)
          (ih _ (run.stoppedIn k) fun y hy => ha y (List.mem_cons_of_mem _ ?_))
        rw [agenda, trailing] at hy
        rwa [show ({ s with trailing := rest } : State).agenda = [] from hs] at hy

theorem State.finish_settled {h : HeadId} (s : State) (k : s.stoppedIn h)
    (ha : ∀ x ∈ s.agenda ++ s.trailing, x.isSelection = true) : ∃ t : State, s.finish = .next t ∧ Settled h s t :=
  ⟨_, rfl, cascade_settled Config.cascadeFuel s k ha⟩

end Sys2Proof.Machine
end

section
/-! O16 (continued): the leg after its travel. -/

set_option Elab.async false

namespace Sys2Proof.Machine

/-! ### The arrival (R55, R84) -/

/-- The state in which the leg of an arrived head goes on: its command record empty, its reservation the target point, the other
head's waiting leg examined again, its position the target. -/
def State.arrivedAt (s : State) (h : HeadId) (x y : Nat) : State :=
  (((s.setCommand h .empty).setReserved h (some ⟨x, x⟩)).regrant h.other).setHead h { s.head h with x := x, y := y }

section
variable {s : State} {h : HeadId}

/-- Examining the other head's leg again leaves this head's record alone. -/
theorem State.regrant_other_head (t : State) (h : HeadId) : (t.regrant h.other).head h = t.head h := by
  have granted (x y : Nat) (iv : Interval) : (t.grantLeg h.other x y iv).head h = t.head h := by
    rw [State.grantLeg_eq, State.sendTravel_eq]
    exact (State.head_setHead _ h.other h _).trans (if_neg (HeadId.ne_other h))
  unfold State.regrant
  split
  · rfl
  · split
    · exact granted _ _ _
    · rfl

/-- Of the rest, it changes the other head's record, the rail, the link and the messages alone. -/
theorem State.regrant_eq (t : State) (h : HeadId) : t.regrant h = { t with
    planner := (t.regrant h).planner, rail := (t.regrant h).rail, link := (t.regrant h).link, outbox := (t.regrant h).outbox } ∧
    (t.regrant h).planner.requests = t.planner.requests := by
  unfold State.regrant
  split
  · exact ⟨rfl, rfl⟩
  · split
    · rw [State.grantLeg_eq, State.sendTravel_eq]
      exact ⟨rfl, rfl⟩
    · exact ⟨rfl, rfl⟩

theorem State.regrant_of_idle (t : State) (h : HeadId) (hw : t.working = false) : t.regrant h = t := by
  cases e : t.rail.waiting.get h with
  | none => exact State.regrant_of_none e
  | some w => exact State.regrant_of_barred e (by rw [hw, Bool.false_and])

theorem State.arrivedAt_head (x y : Nat) : (s.arrivedAt h x y).head h = { s.head h with x := x, y := y } :=
  State.head_setHead_self _ _ _

theorem State.arrivedAt_eq (x y : Nat) : s.arrivedAt h x y = { s with
    planner := (s.arrivedAt h x y).planner
    rail := (s.arrivedAt h x y).rail
    link := (s.arrivedAt h x y).link
    outbox := (s.arrivedAt h x y).outbox } := by
  unfold State.arrivedAt
  rw [(State.regrant_eq ((s.setCommand h .empty).setReserved h (some ⟨x, x⟩)) h.other).1]
  rfl

theorem State.arrivedAt_control (x y : Nat) : (s.arrivedAt h x y).control = s.control :=
  (congrArg State.control (State.arrivedAt_eq x y) :)

theorem State.arrivedAt_working (x y : Nat) : (s.arrivedAt h x y).working = s.working := by
  unfold State.working State.isIn
  rw [State.arrivedAt_control]

theorem State.arrivedAt_atRest (x y : Nat) (hr : s.atRest) : (s.arrivedAt h x y).atRest :=
  ⟨(congrArg State.agenda (State.arrivedAt_eq x y) :).trans hr.1,
    (congrArg State.trailing (State.arrivedAt_eq x y) :).trans hr.2⟩

theorem State.arrivedAt_sites (x y : Nat) : (s.arrivedAt h x y).sites = s.sites :=
  (congrArg State.sites (State.arrivedAt_eq x y) :)

/-- In HOLDING no leg is granted: the other head waits on. -/
theorem State.arrivedAt_of_holding (x y : Nat) (hs : s.control.state = .holding) : s.arrivedAt h x y =
    ((s.setCommand h .empty).setReserved h (some ⟨x, x⟩)).setHead h { s.head h with x := x, y := y } := by
  have idle : ((s.setCommand h .empty).setReserved h (some ⟨x, x⟩)).working = false := by
    rw [← Bool.not_eq_true, State.working_iff]
    change ¬(s.control.state = .run ∨ s.control.state = .draining)
    rw [hs]
    decide
  rw [State.arrivedAt, State.regrant_of_idle _ _ idle]

/-- An arrival outside HALTED: the head is not STOPPED, so that no hold is complete, and its leg goes on. -/
theorem State.exec_arrived {x y : Nat} {px py : Fin 4} {w : Watchdog} (hl : s.link.get h = .travel x y px py w)
    (hs : s.control.state ≠ .halted) (hh : (s.head h).state ≠ .stopped) :
    exec (.arrived h) s = ((s.arrivedAt h x y).legArrived h).finish := by
  have open' : (s.setCommand h .empty).isIn .halted = false := beq_false_of_ne hs
  have taken : s.takeArrived h = (s.setCommand h .empty).travelEnded h x y := by
    unfold State.takeArrived
    rw [hl]
    simp only [open']
    rfl
  have placed : (((s.setCommand h .empty).setReserved h (some ⟨x, x⟩)).regrant h.other).setHead h
      { (((s.setCommand h .empty).setReserved h (some ⟨x, x⟩)).regrant h.other).head h with x := x, y := y } =
      s.arrivedAt h x y := by
    rw [State.regrant_other_head]
    rfl
  have quiet : (s.arrivedAt h x y).holdTest = s.arrivedAt h x y :=
    State.holdTest_of_not fun e => hh (by have := e.2.1 h; rwa [State.arrivedAt_head] at this)
  change (s.takeArrived h).finish = _
  rw [taken]
  unfold State.travelEnded
  simp only [placed, quiet]

/-! ### The leg goes on (R113, R114, R118) -/

variable {l : Leg} {rest : List Leg} (hl : (s.head h).legs = l :: rest)
include hl

theorem State.legArrived_pick {k : Nozzle} (hk : l.nozzle = some k) (hp : l.kind = .pick) :
    s.legArrived h = s.startAct h k .pick := by
  simp only [State.legArrived, hl, hk, hp]

theorem State.legArrived_of_gone {k : Nozzle} (hk : l.nozzle = some k) (hp : l.kind = .place) (hu : s.slot h k ≠ l.unit) :
    s.legArrived h = s.dissolveAtEnd h (l :: rest) := by
  simp only [State.legArrived, hl, hk, hp]
  exact if_pos hu

theorem State.legArrived_place {k : Nozzle} (hk : l.nozzle = some k) (hp : l.kind = .place) (hu : s.slot h k = l.unit)
    (he : ∀ i : Site, l.location = .socket i → (s.socket i).state = .empty) :
    s.legArrived h = s.startAct h k .place := by
  simp only [State.legArrived, hl, hk, hp]
  rw [if_neg (not_not_intro hu)]
  split
  · next i e => exact if_pos (he i e)
  · rfl

theorem State.legArrived_taken {k : Nozzle} {i : Site} (hk : l.nozzle = some k) (hp : l.kind = .place)
    (hu : s.slot h k = l.unit) (hi : l.location = .socket i) (he : (s.socket i).state ≠ .empty) :
    s.legArrived h = if s.working then s.setHeadState h .socketWait else s.dissolveAtEnd h (l :: rest) := by
  simp only [State.legArrived, hl, hk, hp, hi]
  rw [if_neg (not_not_intro hu), if_neg he]

theorem State.legArrived_travel (hp : l.kind = .travel) : s.legArrived h = s.endJob h := by
  simp only [State.legArrived, hl, hp]

end

/-! ### The job dissolved, or ended, at an arrival in HOLDING (R75, R118) -/

section
variable {s : State} {h : HeadId}

/-- In HOLDING a head whose job is over stops; what selections follow leave it so. -/
theorem State.restAfterJob_holding (hs : s.control.state = .holding)
    (ha : ∀ x ∈ s.agenda ++ s.trailing, x.isSelection = true) :
    ∃ t : State, (s.restAfterJob h).finish = .next t ∧ Settled h (s.setHeadState h .stopped) t := by
  have rests : s.restAfterJob h = (s.setHeadState h .stopped).holdTest := by
    refine if_neg ?_
    rw [State.working_iff, hs]
    decide
  have stopped : (s.setHeadState h .stopped).stoppedIn h := ⟨.inl hs, State.setHeadState_state _⟩
  have tested : Settled h (s.setHeadState h .stopped) (s.setHeadState h .stopped).holdTest := State.holdTest_settled stopped.1
  obtain ⟨agenda, trailing⟩ := (s.setHeadState h .stopped).holdTest_lines
  obtain ⟨t, finished, settled⟩ := State.finish_settled _ (tested.stoppedIn stopped) (by rwa [agenda, trailing])
  exact ⟨t, by rw [rests, finished], tested.trans settled⟩

/-- In RUN and DRAINING a job ends in IDLE and selection (R64). -/
theorem State.endJob_of_working (hw : s.working = true) : s.endJob h =
    (((s.setHead h { s.head h with job := none, legs := [] }).reroute).setHeadState h .idle).select h :=
  if_pos ((State.working_of_control (by rw [(State.reroute_aside _).control]; rfl) hw))

/-- In HOLDING it ends in STOPPED (R75). -/
theorem State.endJob_holding (hr : s.atRest) (hs : s.control.state = .holding) : ∃ t : State,
    (s.endJob h).finish = .next t ∧ t.head h = { s.head h with state := .stopped, job := none, legs := [] } ∧ t.rail = s.rail := by
  have aside := State.reroute_aside (s.setHead h { s.head h with job := none, legs := [] })
  obtain ⟨t, finished, settled⟩ := State.restAfterJob_holding (h := h) (by rw [aside.control]; exact hs) fun x hx =>
    (aside.tasks x hx).elim (fun hx => by
      have hx : x ∈ s.agenda ++ s.trailing := hx
      rw [hr.1, hr.2] at hx
      cases hx) id
  refine ⟨t, finished, ?_, settled.rail.trans aside.rail⟩
  rw [settled.head]
  refine (State.head_setHead_self _ _ _).trans ?_
  rw [aside.head, State.head_setHead_self]

theorem State.dissolve_tasks (s : State) (h : HeadId) (d : List Leg) (hr : s.atRest) :
    ∀ x ∈ (s.dissolve h d []).agenda ++ (s.dissolve h d []).trailing, x.isSelection = true := fun x hx =>
  ((s.dissolve_chooses h d []).tasks x hx).elim (fun hx => by rw [hr.1, hr.2] at hx; cases hx) id

/-- A job dissolved at its arrival in HOLDING. -/
theorem State.arrivedAt_dissolved {x y : Nat} {l : Leg} {rest : List Leg} (hr : s.atRest) (hs : s.control.state = .holding)
    (hl : (s.head h).legs = l :: rest) : ∃ t : State,
      ((s.arrivedAt h x y).dissolveAtEnd h (l :: rest)).finish = .next t ∧ (t.head h).state = .stopped ∧
        (t.head h).x = x ∧ (t.head h).y = y ∧ Dissolved h s t ∧ t.link = s.link.set h .empty ∧
        ∃ more : List Message, t.outbox = s.outbox ++ more ∧ ∀ m ∈ more, m = .interrupt := by
  have there := State.arrivedAt_of_holding (h := h) x y hs
  have legs : ((s.arrivedAt h x y).head h).legs = l :: rest := by
    rw [State.arrivedAt_head]
    exact hl
  have d := State.dissolve_dissolved (s.arrivedAt h x y) h
  rw [legs] at d
  have aside := State.dissolve_aside (s := s.arrivedAt h x y) (h := h) (l :: rest) []
  have holding : ((s.arrivedAt h x y).dissolve h (l :: rest) []).control.state = .holding := by
    rw [State.dissolve_control, State.arrivedAt_control, hs]
  obtain ⟨t, finished, settled⟩ := State.restAfterJob_holding (h := h) holding
    (State.dissolve_tasks _ h _ (State.arrivedAt_atRest x y hr))
  have head : t.head h = { s.head h with state := .stopped, x := x, y := y, job := none, legs := [] } := by
    rw [settled.head]
    refine (State.head_setHead_self _ _ _).trans ?_
    rw [State.dissolve_head, State.arrivedAt_head]
  have base : Dissolved h s ((s.arrivedAt h x y).dissolve h (l :: rest) []) := by
    refine d.base ⟨x, y, State.arrivedAt_head x y⟩ (by rw [there]; rfl) fun i _ => ?_
    rw [there]
    exact ⟨rfl, rfl⟩
  have stopped : Dissolved h s (((s.arrivedAt h x y).dissolve h (l :: rest) []).setHeadState h .stopped) :=
    base.frees (Frees.of_same (s := (s.arrivedAt h x y).dissolve h (l :: rest) [])) ⟨.stopped, State.head_setHead_self _ _ _⟩
      rfl fun _ hi => ⟨hi, rfl⟩
  refine ⟨t, finished, by rw [head], by rw [head], by rw [head], settled.dissolved stopped, ?_, ?_⟩
  · refine settled.link.trans (aside.link.trans ((State.withdraw_link _ _ _).trans ?_))
    rw [there]
    rfl
  · obtain ⟨a, ha, ia⟩ := State.withdraw_outbox (s.arrivedAt h x y) h (l :: rest)
    obtain ⟨b, hb, ib⟩ := aside.outbox
    obtain ⟨c, hc, ic⟩ := settled.outbox
    have hc : t.outbox = ((s.arrivedAt h x y).dissolve h (l :: rest) []).outbox ++ c := hc
    have hb : ((s.arrivedAt h x y).dissolve h (l :: rest) []).outbox =
        ((s.arrivedAt h x y).withdraw h (l :: rest)).outbox ++ b := hb
    have h0 : (s.arrivedAt h x y).outbox = s.outbox := by rw [there]; rfl
    refine ⟨a ++ b ++ c, by rw [hc, hb, ha, h0]; simp, fun m hm => ?_⟩
    rcases List.mem_append.1 hm with hm | hm
    · exact (List.mem_append.1 hm).elim (ia m) (ib m)
    · exact ic m hm

end

end Sys2Proof.Machine

open Sys2Proof Sys2Proof.Machine in
/-- Settles O16: the arrival itself is `arrivedAt`, and then each clause is one branch of `legArrived`; the HOLDING clauses go on
through selections that leave a stopped head alone. -/
theorem arrivalTable : Obligations.ArrivalTable := by
  intro s h x y px py w l rest hr hl hs hh hlegs there acting
  have run : exec (.arrived h) s = (there.legArrived h).finish := State.exec_arrived hl hs hh
  have head : there.head h = { s.head h with x := x, y := y } := State.arrivedAt_head x y
  have legs : (there.head h).legs = l :: rest := by rw [head]; exact hlegs
  have rests : there.atRest := State.arrivedAt_atRest x y hr
  have slot (k : Nozzle) : there.slot h k = s.slot h k := by rw [State.slot, head]; rfl
  have socket (i : Site) : there.socket i = s.socket i := by
    rw [State.socket, show there.sites = s.sites from State.arrivedAt_sites x y]
    rfl
  have working : there.working = s.working := State.arrivedAt_working x y
  have acts (k : Nozzle) (a : Action) : (there.startAct h k a).finish = .next (acting k a) := by
    have same : there = _ := State.arrivedAt_eq x y
    have time : there.time = s.time := (congrArg State.time same :)
    have deck : there.deck = s.deck := (congrArg State.deck same :)
    have begun : there.startAct h k a = acting k a := by
      unfold State.startAct State.sendAct
      rw [time, deck]
    rw [begun]
    exact State.finish_rest _ rests
  have idle (hs : s.control.state = .holding) : there.working = false := by
    rw [working, ← Bool.not_eq_true, State.working_iff, hs]
    decide
  refine ⟨fun k hk => ⟨fun hp => ?_, fun hp hu he => ?_, fun i hp hu hi he hw => ?_, fun hp hd hg => ?_⟩,
    fun hp => ⟨fun hw => ?_, fun hd => ?_⟩⟩
  · rw [run, State.legArrived_pick legs hk hp]
    exact acts k .pick
  · rw [run, State.legArrived_place legs hk hp ((slot k).trans hu) fun i hi => by rw [socket]; exact he i hi]
    exact acts k .place
  · rw [run, State.legArrived_taken legs hk hp ((slot k).trans hu) hi (by rwa [socket]), working, if_pos hw]
    exact State.finish_rest _ rests
  · have gone : there.legArrived h = there.dissolveAtEnd h (l :: rest) := by
      by_cases hu : there.slot h k = l.unit
      · obtain ⟨i, hi, he⟩ := hg.resolve_left (not_not_intro ((slot k).symm.trans hu))
        rw [State.legArrived_taken legs hk hp hu hi (by rwa [socket]), idle hd]
        rfl
      · exact State.legArrived_of_gone legs hk hp hu
    rw [run, gone]
    exact State.arrivedAt_dissolved hr hd hlegs
  · rw [run, State.legArrived_travel legs hp, State.endJob_of_working (working.trans hw)]
  · obtain ⟨t, finished, after, rail⟩ := State.endJob_holding (h := h) rests
      (by rw [show there.control = s.control from State.arrivedAt_control x y]; exact hd)
    refine ⟨t, by rw [run, State.legArrived_travel legs hp, finished], after.trans (by rw [head]), ?_⟩
    rw [rail, show there = _ from State.arrivedAt_of_holding x y hd]
    exact Pair.get_set_self _ _ _
end

section
/-! O17: an attempt judged outside HALTED (R116, R117), and the end of a leg (R59 to R64). -/

set_option Elab.async false

namespace Sys2Proof.Machine

/-! ### The judgement of an attempt -/

section
variable {s : State} {h : HeadId} {k : Nozzle} {a : Action} {n : Nat} {w : Watchdog} {vacuum : Bool}

theorem Action.success_eq (a : Action) (vacuum : Bool) : a.success vacuum = if a = .pick then vacuum else !vacuum := by
  cases a <;> rfl

theorem State.retries_eq (s : State) (a : Action) :
    s.retries a = if a = .pick then s.deck.pickRetries else s.deck.placeRetries := by
  cases a <;> rfl

/-- A failed attempt that is not the last one. -/
theorem State.takeActDone_of_retry (hl : s.link.get h = .act k a n w) (hs : s.control.state ≠ .halted)
    (hv : a.success vacuum = false) (hn : n ≤ s.retries a) :
    s.takeActDone h k vacuum = (s.setCommand h .empty).sendAct h k a (n + 1) := by
  have more : n ≤ (s.setCommand h .empty).retries a ∧ (s.setCommand h .empty).isIn .halted = false := ⟨hn, beq_false_of_ne hs⟩
  unfold State.takeActDone
  simp only [hl, if_true, State.judgeAttempt, hv]
  exact (if_neg Bool.false_ne_true).trans (if_pos more)

/-- A failed attempt that is the last one. -/
theorem State.takeActDone_of_failure (hl : s.link.get h = .act k a n w) (hv : a.success vacuum = false) (hn : s.retries a < n) :
    s.takeActDone h k vacuum = (s.setCommand h .empty).actionEnded h k false := by
  have last : ¬(n ≤ (s.setCommand h .empty).retries a ∧ (s.setCommand h .empty).isIn .halted = false) :=
    fun e => absurd e.1 (not_le.2 hn)
  unfold State.takeActDone
  simp only [hl, if_true, State.judgeAttempt, hv]
  exact (if_neg Bool.false_ne_true).trans (if_neg last)

theorem State.setCommand_setCommand (s : State) (h : HeadId) (a b : CommandRecord) :
    (s.setCommand h a).setCommand h b = s.setCommand h b := by
  simp [State.setCommand]

/-- No follow-up work halts the device (R173). -/
theorem Path.not_halted {s t : State} (p : Path .work s t) (hs : s.control.state ≠ .halted) : t.control.state ≠ .halted :=
  p.keeps (P := fun t => t.control.state ≠ .halted) (fun t u m ht => by
    obtain ⟨e | ⟨-, e⟩ | ⟨-, e⟩, -⟩ := m.work <;> rw [e]
    · exact ht
    · nofun
    · nofun) hs

/-- A final result outside HALTED: the report, the test of R177, and the leg's end. -/
theorem State.actionEnded_of_live {l : Leg} {rest : List Leg} (hl : (s.head h).legs = l :: rest)
    (hs : s.control.state ≠ .halted) (ok : Bool) :
    s.actionEnded h k ok = ((s.report h l k ok).holdTest).push (.legEnd h ok) := by
  have live : (s.report h l k ok).holdTest.isIn .halted = false :=
    beq_false_of_ne (((State.report_path s h l k ok).trans (State.holdTest_path _)).not_halted hs)
  unfold State.actionEnded
  simp only [hl, live]
  rfl

end

/-! ### The end of a leg (R59 to R64) -/

theorem State.setHead_working (s : State) (h : HeadId) (r : HeadRecord) : (s.setHead h r).working = s.working := rfl

/-- The head's leg is off the record and counted. -/
def State.legDone (s : State) (h : HeadId) (j : Job) : State :=
  s.setHead h { s.head h with job := some { j with legsDone := j.legsDone + 1 }, legs := (s.head h).legs.tail }

section
variable {s : State} {h : HeadId} {ok : Bool}

theorem State.legEnded_of_none (hj : (s.head h).job = none) : s.legEnded h ok = s := by
  simp only [State.legEnded, hj]

variable {j : Job} (hj : (s.head h).job = some j)
include hj

theorem State.legEnded_of_idle (hw : s.working = false) :
    s.legEnded h ok = (s.legDone h j).dissolveAtEnd h (s.head h).legs.tail := by
  simp only [State.legEnded, hj, State.setHead_working, hw]
  rfl

variable (hw : s.working = true)
include hw

theorem State.legEnded_feed (hk : j.kind = .feed) : s.legEnded h ok = (s.legDone h j).feedNext h (j.legsDone + 1) := by
  obtain ⟨kind, site, level, raised, pick, place, taken, count⟩ := j
  obtain rfl : kind = .feed := hk
  simp only [State.legEnded, hj, State.setHead_working, hw]
  rfl

theorem State.legEnded_sort (hk : j.kind = .sort) :
    s.legEnded h ok = (s.legDone h j).sortNext h { j with legsDone := j.legsDone + 1 } := by
  obtain ⟨kind, site, level, raised, pick, place, taken, count⟩ := j
  obtain rfl : kind = .sort := hk
  simp only [State.legEnded, hj, State.setHead_working, hw]
  rfl

theorem State.legEnded_swap_next (hk : j.kind = .swap) {l : Leg} {rest : List Leg} (hl : (s.head h).legs.tail = l :: rest) :
    s.legEnded h ok = if ok then (s.legDone h j).nextLeg h l else (s.legDone h j).endJob h := by
  obtain ⟨kind, site, level, raised, pick, place, taken, count⟩ := j
  obtain rfl : kind = .swap := hk
  simp only [State.legEnded, hj, State.setHead_working, hw, State.legDone, hl]
  rfl

theorem State.legEnded_swap_last (hk : j.kind = .swap) (hl : (s.head h).legs.tail = []) :
    s.legEnded h ok = (s.legDone h j).endJob h := by
  obtain ⟨kind, site, level, raised, pick, place, taken, count⟩ := j
  obtain rfl : kind = .swap := hk
  simp only [State.legEnded, hj, State.setHead_working, hw, State.legDone, hl]
  rfl

theorem State.legEnded_single (hk : j.kind = .load ∨ j.kind = .unload ∨ j.kind = .yield) :
    s.legEnded h ok = (s.legDone h j).endJob h := by
  obtain ⟨kind, site, level, raised, pick, place, taken, count⟩ := j
  obtain rfl | rfl | rfl : kind = .load ∨ kind = .unload ∨ kind = .yield := hk
  all_goals
    simp only [State.legEnded, hj, State.setHead_working, hw]
    rfl

end

/-! ### FEED (R59) -/

section
variable {s : State} {h : HeadId} {n : Nat}

theorem State.feedNext_of_stop (hn : s.emptyCount h ≤ 1 ∨ 4 ≤ n) : s.feedNext h n = s.endJob h := if_pos hn

theorem State.feedNext_of_leg (hn : ¬(s.emptyCount h ≤ 1 ∨ 4 ≤ n)) {t : State} {l : Leg}
    (hl : s.evaluateSupply.feedLeg h = some (t, l)) : s.feedNext h n = t.nextLeg h l := by
  refine (if_neg hn).trans ?_
  simp only [hl]

theorem State.feedNext_of_none (hn : ¬(s.emptyCount h ≤ 1 ∨ 4 ≤ n)) (hl : s.evaluateSupply.feedLeg h = none) :
    s.feedNext h n = s.evaluateSupply.endJob h := by
  refine (if_neg hn).trans ?_
  simp only [hl]

theorem State.emptyCount_le_one_iff (s : State) (h : HeadId) :
    s.emptyCount h ≤ 1 ↔ ¬∃ a b : Nozzle, a ≠ b ∧ s.slot h a = none ∧ s.slot h b = none := by
  rw [← State.two_le_emptyCount_iff]
  omega

end

/-! ### In HOLDING (R75, R177) -/

/-- A job dissolved at its leg's end in HOLDING: the head stops, and the hold is complete with nothing else under way. -/
theorem State.dissolveAtEnd_holding {s : State} {h : HeadId} (hs : s.control.state = .holding) (d : List Leg) :
    let gone := (s.dissolve h d []).setHeadState h .stopped
    let quiet : Prop := (s.head h.other).state = .stopped ∧ s.link = ⟨.empty, .empty⟩
    (quiet → s.dissolveAtEnd h d = { gone with control := { s.control with state := .held, holdAck := true } }.setFlag .state) ∧
    (¬quiet → s.dissolveAtEnd h d = gone) := by
  intro gone quiet
  have control : gone.control = s.control := State.dissolve_control d []
  have holding : gone.control.state = .holding := by rw [control, hs]
  have rests : s.dissolveAtEnd h d = gone.holdTest := by
    refine if_neg ?_
    rw [State.working_iff, State.dissolve_control, hs]
    decide
  have mine : (gone.head h).state = .stopped := State.setHeadState_state _
  have other : gone.head h.other = s.head h.other := by
    refine (State.head_setHead _ h _ _).trans ((if_neg (HeadId.other_ne h)).trans ?_)
    rw [(State.dissolve_aside d []).head]
    exact (State.head_setHead _ h _ _).trans ((if_neg (HeadId.other_ne h)).trans (State.withdraw_head _ _ _ _))
  have link : gone.link = s.link := (State.dissolve_aside d []).link.trans (State.withdraw_link _ _ _)
  have atHold : gone.atHold ↔ quiet := by
    refine and_congr ⟨fun e => other ▸ e h.other, fun e g => ?_⟩ (by rw [link])
    rcases HeadId.eq_or_eq_other h g with rfl | rfl
    · exact mine
    · rw [other, e]
  rw [rests]
  constructor
  · intro hq
    rw [State.holdTest_of_complete holding (atHold.2 hq), State.holdDone, control]
  · exact fun hq => State.holdTest_of_not fun e => hq (atHold.1 e.2)

end Sys2Proof.Machine

open Sys2Proof Sys2Proof.Machine in
/-- Settles O17: the judgement by the result and the count of the attempt, and the leg's end by the job's kind. -/
theorem actionJudged : Obligations.ActionJudged := by
  refine ⟨fun s h k a n w l rest vacuum hr hl hs hlegs => ?_, fun s h ok => ⟨rfl, fun hj => State.legEnded_of_none hj,
    fun j hj => ?_⟩⟩
  · intro good limit
    have success : a.success vacuum = good := a.success_eq vacuum
    have retries : s.retries a = limit := s.retries_eq a
    refine ⟨fun hg hn => ?_, fun hg => ?_⟩
    · change (s.takeActDone h k vacuum).finish = _
      rw [State.takeActDone_of_retry hl hs (success.trans hg) (by rwa [retries])]
      have sent : (s.setCommand h .empty).sendAct h k a (n + 1) =
          (s.send (.act h k a)).setCommand h (.act k a (n + 1) (.running (s.time + s.deck.actionLimit * 1000))) :=
        State.setCommand_setCommand (s.send (.act h k a)) h _ _
      rw [sent]
      exact State.finish_rest _ hr
    · change (s.takeActDone h k vacuum).finish = _
      have ended : s.takeActDone h k vacuum = (s.setCommand h .empty).actionEnded h k good := by
        cases hv : good with
        | true => exact State.takeActDone_of_success hl (success.trans hv)
        | false =>
          have last := hg.resolve_left (by rw [hv]; exact Bool.false_ne_true)
          exact State.takeActDone_of_failure hl (success.trans hv) (by rwa [retries])
      rw [ended, State.actionEnded_of_live (s := s.setCommand h .empty) hlegs hs]
  · intro done there ends next working twoEmpty supplied
    have busy : working → s.working = true := State.working_iff.2
    have goes (t : State) (ht : t.control = s.control) (hw : working) : t.endJob h = ends t :=
      State.endJob_of_working (State.working_of_control (by rw [ht]) (busy hw))
    have stop : there.emptyCount h ≤ 1 ↔ ¬twoEmpty := by
      rw [State.emptyCount_le_one_iff]
      have slot (k : Nozzle) : there.slot h k = s.slot h k := by
        rw [State.slot, show there.head h = _ from State.head_setHead_self _ _ _]
        rfl
      simp only [slot]
      rfl
    refine ⟨fun hw hk => ⟨fun hn => ?_, fun h2 hn => ⟨fun t l hf => ?_, fun hf => ?_⟩⟩,
      fun hw hk => ⟨fun l rest ht => ⟨fun ho => ?_, fun ho => ?_⟩, fun ht => ?_⟩, fun hw hk => State.legEnded_sort hj (busy hw) hk,
      fun hw hk => ?_, fun hs => ?_⟩
    · rw [State.legEnded_feed hj (busy hw) hk]
      exact (State.feedNext_of_stop (hn.imp_left stop.2)).trans (goes there rfl hw)
    · have on : ¬(there.emptyCount h ≤ 1 ∨ 4 ≤ j.legsDone + 1) := fun e => e.elim (fun e => stop.1 e h2) (not_le.2 hn)
      rw [State.legEnded_feed hj (busy hw) hk]
      exact State.feedNext_of_leg on hf
    · have on : ¬(there.emptyCount h ≤ 1 ∨ 4 ≤ j.legsDone + 1) := fun e => e.elim (fun e => stop.1 e h2) (not_le.2 hn)
      rw [State.legEnded_feed hj (busy hw) hk]
      exact (State.feedNext_of_none on hf).trans (goes supplied (State.evaluateSupply_aside there).control hw)
    · rw [State.legEnded_swap_next hj (busy hw) hk ht, if_pos ho]
      rfl
    · rw [State.legEnded_swap_next hj (busy hw) hk ht, if_neg (by rw [ho]; exact Bool.false_ne_true)]
      exact goes there rfl hw
    · rw [State.legEnded_swap_last hj (busy hw) hk ht]
      exact goes there rfl hw
    · rw [State.legEnded_single hj (busy hw) hk]
      exact goes there rfl hw
    · have idle : s.working = false := by
        rw [← Bool.not_eq_true, State.working_iff, hs]
        decide
      rw [State.legEnded_of_idle hj idle]
      have other : there.head h.other = s.head h.other := (State.head_setHead s h h.other _).trans (if_neg (HeadId.other_ne h))
      have ends := State.dissolveAtEnd_holding (s := there) (h := h) hs (s.head h).legs.tail
      rw [other] at ends
      exact ends
end
